-- ==== Sys2Proof/Word.lean ====
section
/-! DEFINITION. The widths and index types of the 6480 (00_scope.md 0.5, Table 1-1, Table 3-1). -/

namespace Sys2Proof

/-- A byte of the wire. -/
abbrev Byte := BitVec 8
/-- A link port, 0..7. -/
abbrev Port := Fin 8
/-- A received audio channel: port × 16 + channel. -/
abbrev Source := Fin 128
/-- A transmitted audio channel: port × 16 + channel. -/
abbrev Dest := Fin 128
/-- A talk lane of a destination (R121). -/
abbrev LaneNo := Fin 4
/-- A mix slot of a destination (R82). -/
abbrev SlotNo := Fin 16
/-- A KEY entry. -/
abbrev KeyIndex := Fin 256
/-- A key's number on its panel, 0..31 (section 6.1). -/
abbrev KeyNumber := Fin 32
/-- A PANEL entry. -/
abbrev PanelIndex := Fin 64
/-- A CONTRIBUTOR entry and its context. -/
abbrev ContribIndex := Fin 8
/-- A frame number: the 48-bit frame counter's value (R13). -/
abbrev FrameNo := BitVec 48
/-- A 16-bit counter that saturates at 65535 (00_scope.md 0.5.3). -/
abbrev Counter := BitVec 16
/-- A 24-bit two's complement audio sample. -/
abbrev Sample := BitVec 24
/-- The 16 samples of one frame on one port. -/
abbrev Audio := Vector Sample 16

/-- A number as one byte. -/
def byte (n : Nat) : Byte := BitVec.ofNat 8 n

/-- A yes-or-no byte: 0 for no, 1 for yes (R41). -/
def yesNo (b : Bool) : Byte := if b then 1 else 0

end Sys2Proof
end

