-- ==== Sys2Proof/Syntax.lean ====
section
/-! DEFINITION. The commands of the 6480: one constructor per row of spec/opcode_table.json.
The table gives no row any bits; the operands are those of the row's rule. -/

namespace Sys2Proof

/-- What a message that reached local handling (R29) carries besides its kind and payload: the port
it arrived on, whether its to-address is 255 (else it is the unit address), and its from-address. -/
structure Env where
  port      : Port
  broadcast : Bool
  sender    : Byte
  deriving DecidableEq, Repr

/-- The three flags of a negotiation page (section 8.2). -/
structure PageFlags where
  toggle : Bool
  ack    : Bool
  more   : Bool
  deriving DecidableEq, Repr

/-- The four abilities a side offers (Table 8-3, Table 3-8). -/
structure Abilities where
  fullReturn     : Bool
  talkbackReturn : Bool
  dormantCapable : Bool
  callCapable    : Bool
  deriving DecidableEq, Repr

/-- The operations and events of the part. A REQUEST row carries the tag and the fields after it. -/
inductive Instr where
  /-- R62: power is applied while the strap pins read `straps`. -/
  | powerOn (straps : Fin 8)
  /-- R11: the reset pin is held and released while the strap pins read `straps`. -/
  | resetPin (straps : Fin 8)
  /-- R3: `ticks` oscillator ticks after the command before it, the line of `port` has delivered `bytes`. -/
  | arrival (port : Port) (ticks : Nat) (bytes : List Byte)
  /-- R7: the silent count of a LOCKED port reaches 8. -/
  | silenceTimeout (port : Port)
  /-- R32: a message for neither the unit address nor broadcast. -/
  | forward (port : Port) (kind target sender : Byte) (payload : List Byte)
  /-- R29: a locally addressed message of a kind the part does not take. -/
  | unhandledKind (env : Env) (kind : Byte) (payload : List Byte)
  /-- R103: a KEY message with action DOWN. -/
  | keyDown (env : Env) (payload : List Byte)
  /-- R105: a KEY message with action UP. -/
  | keyUp (env : Env) (payload : List Byte)
  /-- R114: a LEVEL message. -/
  | level (env : Env) (payload : List Byte)
  /-- R128: the Mix Engine's lane drained report. -/
  | laneDrained (dest : Dest) (lane : LaneNo)
  /-- R107: the AUTO threshold of the talk of a KEY entry. -/
  | autoThreshold (key : KeyIndex)
  /-- R107: the latch timeout of the talk of a KEY entry. -/
  | latchTimeout (key : KeyIndex)
  | gatewayBase (env : Env) (flags : PageFlags) (offer : Abilities)
  | gatewayTolerance (env : Env) (flags : PageFlags) (ms : BitVec 16)
  | gatewayIdent (env : Env) (flags : PageFlags) (ident : BitVec 16)
  | gatewayNull (env : Env) (flags : PageFlags)
  | gatewayEchoBack (env : Env) (stamp : BitVec 24)
  | gatewayCall (env : Env)
  | gatewayResume (env : Env)
  | gatewayClose (env : Env)
  | gatewayCloseAck (env : Env)
  /-- R137: a page that fails the check of form. -/
  | pageError (env : Env) (payload : List Byte)
  | negotiationTimeout (context : ContribIndex)
  | echoDue (context : ContribIndex)
  | wakeExpiry (context : ContribIndex)
  | closeTimeout (context : ContribIndex)
  | write (env : Env) (tag : Byte) (fields : List Byte)
  | read (env : Env) (tag : Byte) (fields : List Byte)
  | take (env : Env) (tag : Byte) (fields : List Byte)
  /-- R67: the pending take executes at the coming frame start. -/
  | takeExecute
  | cancel (env : Env) (tag : Byte) (fields : List Byte)
  | revert (env : Env) (tag : Byte) (fields : List Byte)
  | release (env : Env) (tag : Byte) (fields : List Byte)
  | queue (env : Env) (tag : Byte) (fields : List Byte)
  | restart (env : Env) (tag : Byte) (fields : List Byte)
  | standby (env : Env) (tag : Byte) (fields : List Byte)
  | activate (env : Env) (tag : Byte) (fields : List Byte)
  | dormant (env : Env) (tag : Byte) (fields : List Byte)
  | wake (env : Env) (tag : Byte) (fields : List Byte)
  | linecheckOn (env : Env) (tag : Byte) (fields : List Byte)
  | linecheckOff (env : Env) (tag : Byte) (fields : List Byte)
  | close (env : Env) (tag : Byte) (fields : List Byte)
  | mask (env : Env) (tag : Byte) (fields : List Byte)
  | statusDevice (env : Env) (tag : Byte) (fields : List Byte)
  | statusDestination (env : Env) (tag : Byte) (fields : List Byte)
  | statusContributor (env : Env) (tag : Byte) (fields : List Byte)
  | countersPort (env : Env) (tag : Byte) (fields : List Byte)
  | countersDevice (env : Env) (tag : Byte) (fields : List Byte)
  | countersContributor (env : Env) (tag : Byte) (fields : List Byte)
  | countersDestination (env : Env) (tag : Byte) (fields : List Byte)
  | resetFull (env : Env) (tag : Byte) (fields : List Byte)
  | clearTalk (env : Env) (tag : Byte) (fields : List Byte)
  /-- R27: a REQUEST with an unknown name, or with a payload of fewer than 2 bytes. -/
  | unknownRequest (env : Env) (payload : List Byte)
  | timerFrameStart
  | fill
  | referenceSelection
  | revertiveSwitch
  | trainingWindowClose
  /-- R30: a KEY (or, with `level`, a LEVEL) message from a panel the part does not know there. -/
  | unknownPanel (env : Env) (level : Bool) (payload : List Byte)
  /-- R31: a PAGE from a gateway the part does not know there. -/
  | unknownGateway (env : Env) (payload : List Byte)
  deriving DecidableEq, Repr

end Sys2Proof
end

