-- ==== Sys2Proof/Decode.lean ====
section
/-! DEFINITION. The part fetches no instruction, and spec/opcode_table.json gives no row any bits: a
word spells no command. What a message's bytes mean is `dispatch` (Machine/Lane.lean). -/

namespace Sys2Proof

/-- The command that a word spells by the table's bits: none, since no row has bits. -/
def decodeTableWord (_nbits _w : Nat) : Option Instr := none

end Sys2Proof
end

