-- ==== Sys2Proof/Config.lean ====
section
/-! DEFINITION. The constants the spec fixes, each with its rule, and the one free value of the model. -/

namespace Sys2Proof.Config

/-- The unity coefficient (00_scope.md 0.5.1). -/
def unity : Nat := 16384
/-- The most an applied coefficient moves at one frame start (R90). -/
def slewStep : Nat := 256
/-- The nominal period, in sixteenths of an oscillator tick (R14). -/
def nominalPeriod : Nat := 8192
/-- The least trained period (R20). -/
def leastPeriod : Nat := 8184
/-- The greatest trained period (R20). -/
def greatestPeriod : Nat := 8200
/-- The arrivals a training window counts after the one that opens it (R20). -/
def windowArrivals : Nat := 4096
/-- The run from which a port is qualified (R16). -/
def qualifiedRun : Nat := 480
/-- The run from which a candidate is settled, and the greatest run (R16). -/
def settledRun : Nat := 48000
/-- Consecutive good arrivals that lock a port (R4). -/
def lockRun : Nat := 16
/-- Bad arrivals, or silent frame starts, that end a lock (R7). -/
def lossRun : Nat := 8
/-- The greatest depth of a slip buffer (R9). -/
def slipDepth : Nat := 8
/-- The depth that primes a slip buffer (R10). -/
def primeDepth : Nat := 4
/-- The greatest length of an egress queue (R34). -/
def egressDepth : Nat := 16
/-- The greatest payload of a control message (Table 2-2). -/
def maxPayload : Nat := 56
/-- The greatest number of talks (R104). -/
def maxTalks : Nat := 64
/-- The greatest number of references of a claim (R120). -/
def maxRefs : Nat := 4
/-- The greatest length of a wait queue (R122). -/
def queueDepth : Nat := 8
/-- The AUTO threshold in frames (R107). -/
def autoFrames : Nat := 12000
/-- One second in frames (00_scope.md 0.5.1). -/
def second : Nat := 48000
/-- The take horizon in frames (R64). -/
def takeHorizon : Nat := 28800000
/-- The negotiation page timeout (R142) and the close timeout (R144). -/
def pageFrames : Nat := 24000
/-- The wake expiry (R145). -/
def wakeFrames : Nat := 48000
/-- The echo interval in ACTIVE, STANDBY and LINECHECK (R148). -/
def echoFrames : Nat := 48000
/-- The echo interval in DORMANT (R148). -/
def dormantEchoFrames : Nat := 480000
/-- The greatest delay sample that is not stale (R155). -/
def staleAbove : Nat := 96000
/-- The default tolerance in ms (R141). -/
def defaultTolerance : Nat := 400

/-- FREE VALUE (log 7). R18: where an arrival both ends the reference's lock and is a reference
arrival, "the outcome depends on which is taken first". True: the lock lost is taken first.
Applied to how many such choices the run has met. -/
opaque lockLostFirst : Nat → Bool

end Sys2Proof.Config
end

