-- ==== Sys2Proof/Machine/Law.lean ====
section
/-! DEFINITION. The default gain law of R44, computed exactly in integers. -/

namespace Sys2Proof.Machine

/-- Is k at most 16384 × 10^((c − 192)/40) + 1/2? Both sides are doubled, raised to the 40th power
and cleared of the negative power of ten, so the comparison is exact (k ≥ 1). -/
def lawReaches (c k : Nat) : Bool :=
  decide ((2 * k - 1) ^ 40 * 10 ^ (192 - c) ≤ 32768 ^ 40 * 10 ^ (c - 192))

/-- The greatest k below base + 2^bits that the law of code c reaches, found bit by bit. -/
def lawSearch (c : Nat) : Nat → Nat → Nat
  | 0, base => base
  | bits + 1, base =>
    if lawReaches c (base + 2 ^ bits) then lawSearch c bits (base + 2 ^ bits) else lawSearch c bits base

/-- R44: the default coefficient of code c, rounded to the nearest integer with halves upward and
limited to 65535; code 0 gives 0. -/
def defaultCoefficient (c : Nat) : BitVec 16 :=
  if c = 0 then 0 else BitVec.ofNat 16 (lawSearch c 16 0)

end Sys2Proof.Machine
end

