-- ==== Sys2Proof/Machine/State.lean ====
section
/-! DEFINITION. The state of the part: everything the spec gives it, block by block (Table 0-1), as
plain data, and its value after power-on, the reset pin and a full reset. INVENTORY.md names the
rule of every field. -/

namespace Sys2Proof.Machine

/-- The part never stops with a fault: the spec answers, counts or drops whatever it cannot use. -/
inductive Fault where
  deriving DecidableEq, Repr

/-- Why a command may have no meaning. -/
inductive Refusal where
  /-- Raised by an arm of `exec` whose command is not modelled yet (safe: the machine stops). -/
  | notModelled (mnemonic : String)
  deriving DecidableEq, Repr

/-! ### Notices -/

/-- The notice classes of Table 10-1, in the order of their codes. -/
inductive NoticeClass where
  | clock | port | contributor | call | take | clip | drop
  deriving DecidableEq, Repr

/-- The class code of Table 10-1. -/
def NoticeClass.code : NoticeClass → Fin 7
  | .clock => 0 | .port => 1 | .contributor => 2 | .call => 3 | .take => 4 | .clip => 5 | .drop => 6

/-- The class of a code of Table 10-1. -/
def NoticeClass.ofCode (k : Fin 7) : NoticeClass :=
  match k.val with
  | 0 => .clock | 1 => .port | 2 => .contributor | 3 => .call | 4 => .take | 5 => .clip | _ => .drop

/-- The three detail bytes of a notice (Table 10-1). -/
structure Detail where
  first  : Byte
  second : Byte
  third  : Byte
  deriving DecidableEq, Repr

/-- What the Notice Unit holds for one class (R161). -/
structure NoticeState where
  mask    : Bool
  pending : Bool
  latest  : Option Detail
  deriving DecidableEq, Repr

/-! ### Link ports -/

/-- Table 1-2. -/
inductive PortMode where
  | disabled | acquiring | locked
  deriving DecidableEq, Repr

/-- The origin of a message in an egress queue (R34); an own TALLY records its panel address and key
number, an own LISTEN its panel address, an own NOTICE its class and detail. -/
inductive Origin where
  | reply
  | page
  | forwarded
  | tally (panel key : Byte)
  | listen (panel : Byte)
  | notice (cls : NoticeClass) (detail : Detail)
  deriving DecidableEq, Repr

/-- An entry of an egress queue; `sent` counts its bytes already transmitted (R12). -/
structure EgressEntry where
  bytes  : List Byte
  origin : Origin
  sent   : Nat
  deriving DecidableEq, Repr

/-- A message has started once its START frame has been transmitted (R12). -/
def EgressEntry.started (e : EgressEntry) : Bool := decide (e.sent ≠ 0)

/-- One Link Port (chapters 1 and 2). -/
structure PortState where
  mode           : PortMode
  /-- Whether the frame alignment is found (R3). -/
  aligned        : Bool
  /-- The bytes held of the frame being delimited (R3). -/
  received       : List Byte
  goodRun        : Nat
  badRun         : Nat
  silent         : Nat
  /-- An arrival has come since the last frame start (R7). -/
  arrived        : Bool
  expected       : Byte
  slip           : List Audio
  primed         : Bool
  lastRead       : Audio
  lastPushed     : Audio
  qualification  : Nat
  /-- The receive assembly: none is WAITING (section 2.2). -/
  assembly       : Option (List Byte)
  egress         : List EgressEntry
  /-- The next frame carries the ABORT of R8. -/
  abortOwed      : Bool
  sequence       : Byte
  /-- The frame transmitted at the last frame start; none where the port sent nothing. -/
  transmitted    : Option (List Byte)
  crcErrors      : Counter
  sequenceErrors : Counter
  slipRepeats    : Counter
  slipDiscards   : Counter
  lockLosses     : Counter
  fragments      : Counter
  laneErrors     : Counter
  egressDrops    : Counter
  deriving DecidableEq, Repr

/-! ### Frame clock -/

/-- Table 1-3. -/
inductive ClockMode where
  | free | locked | holdover
  deriving DecidableEq, Repr

/-- A training window in progress (R20): arrivals counted after the one that opened it, and ticks. -/
structure Window where
  arrivals : Nat
  ticks    : Nat
  deriving DecidableEq, Repr

/-- The Frame Clock (sections 1.4 to 1.6). -/
structure Clock where
  mode               : ClockMode
  reference          : Option Port
  period             : Nat
  phase              : Nat
  /-- Oscillator ticks since the last frame start (R14, R15). -/
  sinceStart         : Nat
  fillCount          : Nat
  window             : Option Window
  frame              : FrameNo
  trainingRejections : Counter
  /-- This frame start's search (R17) or revertive check (R19) is still to be made. -/
  checkOwed          : Bool
  /-- The candidates that a take has moved before the reference since the last check (R19, log 5). -/
  revertHold         : List Port
  deriving DecidableEq, Repr

/-- The device counters of the Control Lane Unit and the Talk Arbiter (R37, R102). -/
structure DeviceCounters where
  addressErrors     : Counter
  unknownPanels     : Counter
  unknownGateways   : Counter
  unhandledKinds    : Counter
  malformedRequests : Counter
  forwardDrops      : Counter
  malformedPanel    : Counter
  unknownKeys       : Counter
  deriving DecidableEq, Repr

/-! ### Tables -/

/-- Table 3-3. -/
structure DeviceEntry where
  trunk         : Option Port
  noticePort    : Option Port
  noticeAddress : Option Byte
  candidates    : List Port
  enabled       : Vector Bool 8
  deriving DecidableEq, Repr

/-- Table 3-5; `refuse` is talk acceptance REFUSE. -/
structure DestinationEntry where
  programme     : Option Source
  programmeCode : Byte
  dimCode       : Byte
  exclude       : Option Source
  defaultMaster : Byte
  refuse        : Bool
  mix           : List (Source × Byte)
  deriving DecidableEq, Repr

/-- Table 3-6; an entry out of use holds its other bytes as written (R53). -/
structure PanelEntry where
  inUse   : Bool
  address : Byte
  port    : Byte
  mic     : Byte
  listen  : Byte
  deriving DecidableEq, Repr

/-- Table 3-7; an entry out of use holds its other bytes as written (R53). -/
structure KeyEntry where
  inUse     : Bool
  panel     : Byte
  number    : Byte
  kind      : Byte
  target    : Byte
  mode      : Byte
  priority  : Byte
  interrupt : Byte
  gain      : Byte
  timeout   : Byte
  deriving DecidableEq, Repr

/-- Table 3-8; an entry out of use holds its other bytes as written (R53). -/
structure ContributorEntry where
  inUse       : Bool
  port        : Byte
  gateway     : Byte
  source      : Byte
  ret         : Byte
  full        : Byte
  talkback    : Byte
  dormant     : Byte
  call        : Byte
  override    : BitVec 16
  wakeOnTalk  : Byte
  wakeOnCall  : Byte
  callPanel   : Byte
  callKey     : Byte
  deriving DecidableEq, Repr

/-- One copy of the seven tables (Table 3-1). -/
structure Tables where
  device       : DeviceEntry
  law          : Vector (BitVec 16) 256
  destinations : Vector DestinationEntry 128
  groups       : Vector (List Dest) 16
  panels       : Vector PanelEntry 64
  keys         : Vector KeyEntry 256
  contributors : Vector ContributorEntry 8
  deriving DecidableEq, Repr

/-- An accepted take that has not executed (R63). `late`: the at-frame had passed at acceptance (R66). -/
inductive PendingTake where
  | immediate (port : Port) (sender name tag : Byte)
  | scheduled (atFrame : FrameNo) (late : Bool)
  deriving DecidableEq, Repr

/-- The Table Store. -/
structure TableStore where
  staged     : Tables
  live       : Tables
  generation : BitVec 16
  take       : Option PendingTake
  deriving DecidableEq, Repr

/-! ### Talk arbiter -/

/-- The key states of R101. -/
inductive KeyPos where
  | up | down | downSpent
  deriving DecidableEq, Repr

/-- The states of a talk (Table 6-2). -/
inductive TalkState where
  | held | autoUndecided | latched
  deriving DecidableEq, Repr

/-- The tally states of Table 6-4 (`partly` is PARTIAL). -/
inductive Tally where
  | idle | talking | partly | waiting | absent | busy | calling
  deriving DecidableEq, Repr

/-- What names a claim: at most one exists for a pair (R118). -/
structure ClaimId where
  talker : Source
  dest   : Dest
  deriving DecidableEq, Repr

/-- A talk's reference to a claim, with what its key contributes; this stays fixed for the life of
the talk (R119). -/
structure Ref where
  key       : KeyIndex
  priority  : Nat
  interrupt : Bool
  gain      : Byte
  deriving DecidableEq, Repr

/-- A claim (Table 7-1). Its destination and its place are where State holds it. -/
structure Claim where
  talker    : Source
  refs      : List Ref
  priority  : Nat
  interrupt : Bool
  gain      : Byte
  occupancy : FrameNo
  deriving DecidableEq, Repr

/-- A lane of a destination (R121). -/
inductive Lane where
  | free
  | active (c : Claim)
  | releasing (bound : Option Claim)
  deriving DecidableEq, Repr

/-- What the Talk Arbiter holds for one destination. -/
structure Arbitration where
  lanes   : Vector Lane 4
  queue   : List Claim
  master  : Byte
  talkers : List Byte
  deriving DecidableEq, Repr

/-- A talk record (Table 6-2); its key entry is where State holds it. -/
structure Talk where
  state  : TalkState
  press  : FrameNo
  latch  : Option FrameNo
  claims : List ClaimId
  deriving DecidableEq, Repr

/-- The runtime state of one KEY entry (R101). -/
structure KeyRun where
  pos     : KeyPos
  refused : Bool
  talk    : Option Talk
  deriving DecidableEq, Repr

/-- The Talk Arbiter. -/
structure TalkArbiter where
  keys      : Vector KeyRun 256
  lastTally : Vector (Vector Tally 32) 64
  calling   : Vector Bool 8
  dests     : Vector Arbitration 128
  deriving DecidableEq, Repr

/-! ### Mix engine -/

/-- R82. -/
inductive SlotState where
  | empty | configured | fading
  deriving DecidableEq, Repr

/-- A mix slot (Table 5-1). -/
structure Slot where
  state   : SlotState
  source  : Option Source
  applied : Nat
  deriving DecidableEq, Repr

/-- A lane term (Table 5-1); `drained`: a lane drained report waits for its answer (R91). -/
structure LaneTerm where
  source  : Option Source
  applied : Nat
  drained : Bool
  deriving DecidableEq, Repr

/-- What the Mix Engine holds for one destination (Table 5-1). -/
structure MixState where
  slots     : Vector Slot 16
  programme : Nat
  dim       : Nat
  lanes     : Vector LaneTerm 4
  check     : Nat
  master    : Nat
  peak      : Nat
  clipFlag  : Bool
  clipCount : Counter
  /-- The sample handed to the destination's port at the last frame start (R89). -/
  output    : Sample
  deriving DecidableEq, Repr

/-! ### Contributor controller -/

/-- Table 8-1, in its order. -/
inductive LinkState where
  | down | negotiating | active | standby | dormant | waking | closing | linecheck
  deriving DecidableEq, Repr

/-- Negotiation progress (Table 8-2). -/
inductive Progress where
  | awaitBase | awaitNext
  deriving DecidableEq, Repr

/-- The return mode (R141). -/
inductive ReturnMode where
  | absent | full | talkbackOnly
  deriving DecidableEq, Repr

/-- A context (Table 8-2, R156 to R158). -/
structure Context where
  state             : LinkState
  partToggle        : Bool
  gatewayToggle     : Option Bool
  /-- The payload of the last negotiation page the part sent. -/
  lastReply         : Option (List Byte)
  progress          : Progress
  gatewayOffer      : Option Abilities
  gatewayTolerance  : Option (BitVec 16)
  gatewayIdent      : Option (BitVec 16)
  pageFrame         : FrameNo
  restartAttempts   : Nat
  resolved          : Abilities
  returnMode        : ReturnMode
  tolerance         : Nat
  ident             : BitVec 16
  echoFrame         : FrameNo
  latestStamp       : BitVec 24
  echoOutstanding   : Bool
  missCount         : Nat
  wakeAttempts      : Nat
  wakeFrame         : FrameNo
  closeFrame        : FrameNo
  callPending       : Bool
  lossMark          : Bool
  pageErrors        : Counter
  losses            : Counter
  restarts          : Counter
  average           : Option Nat
  longDelay         : Bool
  lastReported      : Nat
  deriving DecidableEq, Repr

/-! ### The whole part -/

/-- The state of the part and the queue of the commands that wait. -/
structure State where
  /-- The strap pins (00_scope.md 0.4). -/
  straps   : Fin 8
  /-- The unit address as last read from the straps (R26). -/
  unit     : Byte
  ports    : Vector PortState 8
  clock    : Clock
  counters : DeviceCounters
  store    : TableStore
  talk     : TalkArbiter
  mix      : Vector MixState 128
  contexts : Vector Context 8
  notices  : Vector NoticeState 7
  /-- How many open choices the run has met (log 7). -/
  choices  : Nat
  /-- The commands waiting, first in first out. -/
  pending  : List Instr
  deriving DecidableEq, Repr

/-! ### Values after power-on, the reset pin and a full reset -/

def silence : Audio := Vector.replicate 16 0

/-- R11, R9A, R10, R37. -/
def PortState.reset : PortState :=
  { mode := .acquiring, aligned := false, received := [], goodRun := 0, badRun := 0, silent := 0
    arrived := false, expected := 0, slip := [], primed := false, lastRead := silence
    lastPushed := silence, qualification := 0, assembly := none, egress := [], abortOwed := false
    sequence := 0, transmitted := none, crcErrors := 0, sequenceErrors := 0, slipRepeats := 0
    slipDiscards := 0, lockLosses := 0, fragments := 0, laneErrors := 0, egressDrops := 0 }

/-- R21, R13, R14. -/
def Clock.reset : Clock :=
  { mode := .free, reference := none, period := Config.nominalPeriod, phase := 0, sinceStart := 0
    fillCount := 0, window := none, frame := 0, trainingRejections := 0, checkOwed := false
    revertHold := [] }

/-- R37, R102. -/
def DeviceCounters.zero : DeviceCounters :=
  { addressErrors := 0, unknownPanels := 0, unknownGateways := 0, unhandledKinds := 0
    malformedRequests := 0, forwardDrops := 0, malformedPanel := 0, unknownKeys := 0 }

/-- R62. -/
def DeviceEntry.reset : DeviceEntry :=
  { trunk := none, noticePort := none, noticeAddress := none, candidates := []
    enabled := Vector.replicate 8 true }

/-- R62. -/
def DestinationEntry.reset : DestinationEntry :=
  { programme := none, programmeCode := 0, dimCode := 0, exclude := none, defaultMaster := 0
    refuse := false, mix := [] }

/-- R62. -/
def PanelEntry.reset : PanelEntry := { inUse := false, address := 0, port := 0, mic := 0, listen := 0 }

/-- R62. -/
def KeyEntry.reset : KeyEntry :=
  { inUse := false, panel := 0, number := 0, kind := 0, target := 0, mode := 0, priority := 0
    interrupt := 0, gain := 0, timeout := 0 }

/-- R62. -/
def ContributorEntry.reset : ContributorEntry :=
  { inUse := false, port := 0, gateway := 0, source := 0, ret := 0, full := 0, talkback := 0
    dormant := 0, call := 0, override := 0, wakeOnTalk := 0, wakeOnCall := 0, callPanel := 0
    callKey := 0 }

/-- R62. -/
def Tables.reset : Tables :=
  { device := .reset
    law := Vector.ofFn fun c : Fin 256 => defaultCoefficient c.val
    destinations := Vector.replicate 128 .reset
    groups := Vector.replicate 16 []
    panels := Vector.replicate 64 .reset
    keys := Vector.replicate 256 .reset
    contributors := Vector.replicate 8 .reset }

/-- R39, R63. -/
def TableStore.reset : TableStore :=
  { staged := .reset, live := .reset, generation := 0, take := none }

/-- R101, R114, R118, R121, R122. -/
def TalkArbiter.reset : TalkArbiter :=
  { keys := Vector.replicate 256 { pos := .up, refused := false, talk := none }
    lastTally := Vector.replicate 64 (Vector.replicate 32 .idle)
    calling := Vector.replicate 8 false
    dests := Vector.replicate 128
      { lanes := Vector.replicate 4 .free, queue := [], master := 0, talkers := [] } }

def Slot.reset : Slot := { state := .empty, source := none, applied := 0 }

def LaneTerm.reset : LaneTerm := { source := none, applied := 0, drained := false }

/-- R99. -/
def MixState.reset : MixState :=
  { slots := Vector.replicate 16 .reset, programme := 0, dim := 0
    lanes := Vector.replicate 4 .reset, check := 0, master := 0
    peak := 0, clipFlag := false, clipCount := 0, output := 0 }

def Abilities.nothing : Abilities :=
  { fullReturn := false, talkbackReturn := false, dormantCapable := false, callCapable := false }

/-- Table 8-2, R156 to R158. -/
def Context.reset : Context :=
  { state := .down, partToggle := false, gatewayToggle := none, lastReply := none
    progress := .awaitBase, gatewayOffer := none, gatewayTolerance := none, gatewayIdent := none
    pageFrame := 0, restartAttempts := 0, resolved := Abilities.nothing, returnMode := .absent
    tolerance := Config.defaultTolerance, ident := 0, echoFrame := 0, latestStamp := 0
    echoOutstanding := false, missCount := 0, wakeAttempts := 0, wakeFrame := 0, closeFrame := 0
    callPending := false, lossMark := false, pageErrors := 0, losses := 0, restarts := 0
    average := none, longDelay := false, lastReported := 0 }

/-- R161. -/
def NoticeState.reset : NoticeState := { mask := true, pending := false, latest := none }

/-- R26: the unit address that the straps give. -/
def unitAddress (straps : Fin 8) : Byte := byte (240 + straps.val)

/-- The part as power-on, the release of the reset pin and a full reset leave it, with the straps
reading `straps` (R11, R21, R26, R37, R62, R63, R99, R101, R134, R136, R161). -/
def State.powerUp (straps : Fin 8) : State :=
  { straps := straps
    unit := unitAddress straps
    ports := Vector.replicate 8 .reset
    clock := .reset
    counters := .zero
    store := .reset
    talk := .reset
    mix := Vector.replicate 128 .reset
    contexts := Vector.replicate 8 .reset
    notices := Vector.replicate 7 .reset
    choices := 0
    pending := [] }

/-- The machine right after reset, its straps reading 0 (log 1), its queue empty. -/
def State.reset : State := .powerUp 0

end Sys2Proof.Machine
end

