-- ==== Sys2Proof/Machine/Ops.lean ====
section
/-! DEFINITION. The shared operations of the part: updates of one block of State, byte order, the
CRC, the framing of a control message, the Notice Unit and the egress queues. -/

namespace Sys2Proof.Machine

/-! ### Updates of one block -/

def State.updPort (s : State) (p : Port) (f : PortState → PortState) : State :=
  { s with ports := s.ports.set p (f s.ports[p]) }

def State.updClock (s : State) (f : Clock → Clock) : State := { s with clock := f s.clock }

def State.updCounters (s : State) (f : DeviceCounters → DeviceCounters) : State :=
  { s with counters := f s.counters }

def State.updStore (s : State) (f : TableStore → TableStore) : State := { s with store := f s.store }

def State.updTalk (s : State) (f : TalkArbiter → TalkArbiter) : State := { s with talk := f s.talk }

def State.updKey (s : State) (k : KeyIndex) (f : KeyRun → KeyRun) : State :=
  s.updTalk fun t => { t with keys := t.keys.set k (f t.keys[k]) }

def State.updDest (s : State) (d : Dest) (f : Arbitration → Arbitration) : State :=
  s.updTalk fun t => { t with dests := t.dests.set d (f t.dests[d]) }

def State.updMix (s : State) (d : Dest) (f : MixState → MixState) : State :=
  { s with mix := s.mix.set d (f s.mix[d]) }

def State.updTerm (s : State) (d : Dest) (l : LaneNo) (f : LaneTerm → LaneTerm) : State :=
  s.updMix d fun m => { m with lanes := m.lanes.set l (f m.lanes[l]) }

def State.updContext (s : State) (c : ContribIndex) (f : Context → Context) : State :=
  { s with contexts := s.contexts.set c (f s.contexts[c]) }

def State.updNotice (s : State) (k : NoticeClass) (f : NoticeState → NoticeState) : State :=
  { s with notices := s.notices.set k.code (f s.notices[k.code]) }

/-- The live tables, which every block reads (R39). -/
def State.live (s : State) : Tables := s.store.live

/-- The number of the last frame start (R13). -/
def State.now (s : State) : FrameNo := s.clock.frame

/-- Frames from frame number `start` to the last frame start. -/
def State.since (s : State) (start : FrameNo) : Nat := (s.clock.frame - start).toNat

/-- A saturating counter increased by one (00_scope.md 0.5.3). -/
def bump (c : Counter) : Counter := if c = 65535#16 then c else c + 1

/-! ### Bytes, most significant first -/

def be16 (v : BitVec 16) : List Byte := [v.extractLsb' 8 8, v.extractLsb' 0 8]

def be24 (v : BitVec 24) : List Byte := [v.extractLsb' 16 8, v.extractLsb' 8 8, v.extractLsb' 0 8]

def be32 (v : BitVec 32) : List Byte :=
  [v.extractLsb' 24 8, v.extractLsb' 16 8, v.extractLsb' 8 8, v.extractLsb' 0 8]

def be48 (v : BitVec 48) : List Byte :=
  [v.extractLsb' 40 8, v.extractLsb' 32 8, v.extractLsb' 24 8, v.extractLsb' 16 8, v.extractLsb' 8 8,
   v.extractLsb' 0 8]

def of16 (a b : Byte) : BitVec 16 := a ++ b

def of24 (a b c : Byte) : BitVec 24 := a ++ b ++ c

def of48 (a b c d e f : Byte) : BitVec 48 := a ++ b ++ c ++ d ++ e ++ f

/-- A byte that names a port, if it does (R41). -/
def portOf (b : Byte) : Option Port := if h : b.toNat < 8 then some ⟨b.toNat, h⟩ else none

def sourceOf (b : Byte) : Option Source := if h : b.toNat < 128 then some ⟨b.toNat, h⟩ else none

def panelOf (b : Byte) : Option PanelIndex := if h : b.toNat < 64 then some ⟨b.toNat, h⟩ else none

def keyNumberOf (b : Byte) : Option KeyNumber := if h : b.toNat < 32 then some ⟨b.toNat, h⟩ else none

def groupOf (b : Byte) : Option (Fin 16) := if h : b.toNat < 16 then some ⟨b.toNat, h⟩ else none

def contributorOf (b : Byte) : Option ContribIndex :=
  if h : b.toNat < 8 then some ⟨b.toNat, h⟩ else none

/-- A port, source or destination field on the lane: 255 is none (R41). -/
def optByte {n : Nat} (o : Option (Fin n)) : Byte :=
  match o with
  | some i => byte i.val
  | none => 255

/-! ### The CRC of R2 -/

/-- One data bit into the CRC register. -/
def crcBit (reg : Byte) (bit : Bool) : Byte :=
  if reg.msb != bit then (reg <<< 1) ^^^ 7#8 else reg <<< 1

/-- One byte, from its most significant bit down. -/
def crcByte (reg b : Byte) : Byte :=
  [7, 6, 5, 4, 3, 2, 1, 0].foldl (fun r i => crcBit r (b.getLsbD i)) reg

/-- The CRC of R2 over a list of bytes: the register starts at 0xFF, no final inversion. -/
def crc (bytes : List Byte) : Byte := bytes.foldl crcByte 0xFF#8

/-! ### Control messages (Table 2-2) -/

/-- The sum of bytes modulo 256. -/
def byteSum (bytes : List Byte) : Byte := bytes.foldl (· + ·) 0

/-- A whole control message: kind, to-address, from-address, payload length, payload, and the check
byte that makes the sum of all its bytes 0 modulo 256. -/
def message (kind target sender : Byte) (payload : List Byte) : List Byte :=
  let body := kind :: target :: sender :: byte payload.length :: payload
  body ++ [-(byteSum body)]

/-! ### Kind codes (Table 2-3) -/

def kindKey : Byte := 0x10
def kindLevel : Byte := 0x11
def kindTally : Byte := 0x20
def kindListen : Byte := 0x21
def kindPage : Byte := 0x30
def kindRequest : Byte := 0x40
def kindReply : Byte := 0x41
def kindNotice : Byte := 0x42

/-! ### The Notice Unit (chapter 10) -/

/-- The class becomes pending with this detail as its latest (R36, R162). -/
def setPending (k : NoticeClass) (d : Detail) (s : State) : State :=
  s.updNotice k fun n => { n with pending := true, latest := some d }

/-- The notice routing, when it is configured (R161). -/
def noticeRoute (s : State) : Option (Port × Byte) :=
  match s.live.device.noticePort, s.live.device.noticeAddress with
  | some p, some a => some (p, a)
  | _, _ => none

/-- The bytes of a NOTICE (R162): class, detail, low 32 bits of the last frame start's number. -/
def noticeBytes (s : State) (address : Byte) (k : NoticeClass) (d : Detail) : List Byte :=
  message kindNotice address s.unit
    ([byte k.code.val, d.first, d.second, d.third] ++ be32 (s.now.setWidth 32))

/-- Is there room for a further message on port p (R34, R36)? -/
def hasRoom (s : State) (p : Port) : Bool :=
  s.ports[p].mode == .locked && decide (s.ports[p].egress.length < Config.egressDepth)

/-- The message goes to the tail of the queue of port p. -/
def enqueue (p : Port) (e : EgressEntry) (s : State) : State :=
  s.updPort p fun q => { q with egress := q.egress ++ [e] }

/-- R36, R12, R162: an own NOTICE is queued and its class is no longer pending, or it is not queued
and its class becomes pending with its detail. -/
def offerNotice (p : Port) (address : Byte) (k : NoticeClass) (d : Detail) (s : State) : State :=
  if hasRoom s p then
    (enqueue p { bytes := noticeBytes s address k d, origin := .notice k d, sent := 0 } s).updNotice k
      fun n => { n with pending := false }
  else setPending k d s

/-- R162: a block raises a notice of class k. -/
def raiseNotice (k : NoticeClass) (d : Detail) (s : State) : State :=
  if s.notices[k.code].mask then setPending k d s
  else
    match noticeRoute s with
    | some (p, a) => offerNotice p a k d s
    | none => setPending k d s

/-- R163: a pending class is delivered, while its mask is clear and the routing is configured. -/
def deliver (k : NoticeClass) (s : State) : State :=
  let n := s.notices[k.code]
  match n.pending, n.mask, noticeRoute s, n.latest with
  | true, false, some _, some d => raiseNotice k d s
  | _, _, _, _ => s

/-- R163: every class, in ascending class code. -/
def deliverAll (s : State) : State :=
  (List.finRange 7).foldl (fun s k => deliver (.ofCode k) s) s

/-! ### The egress queues (section 2.6) -/

/-- R35: may `new` replace `old` in place? Both are own TALLYs of one panel and key, or own LISTENs to
one panel, and the old one has not started. -/
def coalesces (new : Origin) (old : EgressEntry) : Bool :=
  !old.started &&
    match new, old.origin with
    | .tally a k, .tally a' k' => a == a' && k == k'
    | .listen a, .listen a' => a == a'
    | _, _ => false

/-- R35: the bytes of the first entry that coalesces are replaced in place; none if there is none. -/
def replaceIn (e : EgressEntry) : List EgressEntry → Option (List EgressEntry)
  | [] => none
  | old :: rest =>
    if coalesces e.origin old then some ({ old with bytes := e.bytes } :: rest)
    else (replaceIn e rest).map (old :: ·)

/-- R36: the newest own NOTICE that has not started, with the queue without it. -/
def displaceNotice : List EgressEntry → Option (NoticeClass × Detail × List EgressEntry)
  | [] => none
  | e :: rest =>
    match displaceNotice rest with
    | some (k, d, rest') => some (k, d, e :: rest')
    | none =>
      match e.origin with
      | .notice k d => if e.started then none else some (k, d, rest)
      | _ => none

/-- R36, R12: a message other than an own NOTICE is dropped: the egress drop counter and a DROP notice. -/
def egressDrop (p : Port) (s : State) : State :=
  raiseNotice .drop ⟨0, byte p.val, 0⟩
    (s.updPort p fun q => { q with egressDrops := bump q.egressDrops })

/-- R34 to R36, R12: a message other than an own NOTICE is offered to the queue of port p. -/
def offer (p : Port) (origin : Origin) (bytes : List Byte) (s : State) : State :=
  let e : EgressEntry := { bytes := bytes, origin := origin, sent := 0 }
  let q := s.ports[p]
  if q.mode = .locked then
    match replaceIn e q.egress with
    | some egress => s.updPort p fun q => { q with egress := egress }
    | none =>
      if q.egress.length < Config.egressDepth then enqueue p e s
      else
        match displaceNotice q.egress with
        | some (k, d, egress) =>
          setPending k d (s.updPort p fun q => { q with egress := egress ++ [e] })
        | none => egressDrop p s
  else egressDrop p s

/-- R28: the REPLY of a block to a request, offered to the request's arrival port. -/
def replyTo (port : Port) (sender name tag result : Byte) (data : List Byte) (s : State) : State :=
  offer port .reply (message kindReply sender s.unit (name :: tag :: result :: data)) s

/-! ### Result codes (Table 2-4) -/

def rOk : Byte := 0x00
def rIgnored : Byte := 0x01
def rBadLength : Byte := 0x02
def rBadRequest : Byte := 0x03
def rBadTable : Byte := 0x04
def rBadField : Byte := 0x05
def rTakePending : Byte := 0x06
def rGeneration : Byte := 0x07
def rInvalid : Byte := 0x08
def rNoTake : Byte := 0x09
def rBadState : Byte := 0x0A
def rOutOfRange : Byte := 0x0B

/-! ### Request names (Table 2-3) -/

def nWrite : Byte := 0x01
def nRead : Byte := 0x02
def nTake : Byte := 0x03
def nCancel : Byte := 0x04
def nRevert : Byte := 0x05
def nRelease : Byte := 0x10
def nQueue : Byte := 0x11
def nContributor : Byte := 0x20
def nMask : Byte := 0x30
def nStatus : Byte := 0x31
def nCounters : Byte := 0x32
def nReset : Byte := 0x3F

/-- Is this one of the request names of Table 2-3 (R27)? -/
def knownName (n : Byte) : Bool :=
  [nWrite, nRead, nTake, nCancel, nRevert, nRelease, nQueue, nContributor, nMask, nStatus, nCounters,
   nReset].contains n

/-! ### What every message that reaches the part meets -/

/-- R26: a from-address the part does not accept: 0, 255 or its own. -/
def badSender (s : State) (sender : Byte) : Bool := sender == 0 || sender == 255 || sender == s.unit

/-- R26: the message is dropped and the device address error counter increased. -/
def addressError (s : State) : State :=
  s.updCounters fun c => { c with addressErrors := bump c.addressErrors }

/-- R33: a broadcast that arrived on a port other than the trunk goes unchanged to the trunk's queue. -/
def forwardBroadcast (e : Env) (kind : Byte) (payload : List Byte) (s : State) : State :=
  match e.broadcast, s.live.device.trunk with
  | true, some t => if t = e.port then s else offer t .forwarded (message kind 255 e.sender payload) s
  | _, _ => s

/-- A message that reached local handling: the address check of R26, the forwarding of R33 (taken
first, log 8), then its local handling `k`. -/
def heard (e : Env) (kind : Byte) (payload : List Byte) (k : State → State) (s : State) : State :=
  if badSender s e.sender then addressError s else k (forwardBroadcast e kind payload s)

/-- R27: a request with its name, tag and fields is handed to its block. -/
def request (e : Env) (name tag : Byte) (fields : List Byte) (k : State → State) (s : State) : State :=
  heard e kindRequest (name :: tag :: fields) k s

/-- The REPLY to a request (R28). -/
def reply (e : Env) (name tag result : Byte) (data : List Byte) (s : State) : State :=
  replyTo e.port e.sender name tag result data s

end Sys2Proof.Machine
end

