-- ==== Sys2Proof/Machine/Flags.lean ====
section
/-! DEFINITION. Conditions that several blocks read off State: which entry is meant by an address, a
source, a return destination; whether a destination is absent; the link flag. -/

namespace Sys2Proof.Machine

/-- The live in-use PANEL entry with this address (R30, R32). -/
def panelByAddress (s : State) (address : Byte) : Option PanelIndex :=
  (List.finRange 64).find? fun i =>
    let e := s.live.panels[i]
    e.inUse && e.address == address

/-- R30: the panel a KEY or LEVEL message is accepted from: the entry with its from-address, if the
message arrived on the port that the entry names. -/
def panelHeard (s : State) (e : Env) : Option PanelIndex :=
  match panelByAddress s e.sender with
  | some i => if portOf s.live.panels[i].port = some e.port then some i else none
  | none => none

/-- R31: the context a PAGE is handed to. -/
def contextHeard (s : State) (e : Env) : Option ContribIndex :=
  (List.finRange 8).find? fun i =>
    let c := s.live.contributors[i]
    c.inUse && (portOf c.port == some e.port) && c.gateway == e.sender

/-- The live in-use CONTRIBUTOR entry with this gateway address (R32). -/
def contributorByAddress (s : State) (address : Byte) : Option ContribIndex :=
  (List.finRange 8).find? fun i =>
    let c := s.live.contributors[i]
    c.inUse && c.gateway == address

/-- R81: the contributor whose return destination d is. -/
def contributorOfReturn (s : State) (d : Dest) : Option ContribIndex :=
  (List.finRange 8).find? fun i =>
    let c := s.live.contributors[i]
    c.inUse && c.ret.toNat == d.val

/-- R80: the contributor whose voice source x is. -/
def contributorOfSource (s : State) (x : Source) : Option ContribIndex :=
  (List.finRange 8).find? fun i =>
    let c := s.live.contributors[i]
    c.inUse && c.source.toNat == x.val

/-- The live in-use panel whose mic source is x (R113). -/
def panelOfMic (s : State) (x : Source) : Option PanelIndex :=
  (List.finRange 64).find? fun i =>
    let e := s.live.panels[i]
    e.inUse && e.mic.toNat == x.val

/-- The live in-use KEY entry of a key position (R102). -/
def keyAt (s : State) (p : PanelIndex) (n : KeyNumber) : Option KeyIndex :=
  (List.finRange 256).find? fun k =>
    let e := s.live.keys[k]
    e.inUse && e.panel.toNat == p.val && e.number.toNat == n.val

/-- The key position of a KEY entry. -/
def positionOf (e : KeyEntry) : Option (PanelIndex × KeyNumber) :=
  match panelOf e.panel, keyNumberOf e.number with
  | some p, some n => some (p, n)
  | _, _ => none

/-- A context state in which the return feed's master is open (R87) and its destination is present (R110). -/
def LinkState.inService : LinkState → Bool
  | .active | .standby | .linecheck => true
  | _ => false

/-- A context state in which the reporter's voice is heard (R80). -/
def LinkState.voiceHeard : LinkState → Bool
  | .active | .linecheck => true
  | _ => false

/-- A context state in which the part keeps the echo (R148). -/
def LinkState.echoes : LinkState → Bool
  | .active | .standby | .dormant | .linecheck => true
  | _ => false

/-- R110: d is the return destination of a contributor whose context is out of service. -/
def destAbsent (s : State) (d : Dest) : Bool :=
  match contributorOfReturn s d with
  | some c => !s.contexts[c].state.inService
  | none => false

/-- The context state code of Table 8-1's order. -/
def LinkState.code : LinkState → Byte
  | .down => 0 | .negotiating => 1 | .active => 2 | .standby => 3
  | .dormant => 4 | .waking => 5 | .closing => 6 | .linecheck => 7

/-- The clock state code of Table 10-1. -/
def ClockMode.code : ClockMode → Byte
  | .free => 0 | .locked => 1 | .holdover => 2

/-- The port state code of Table 10-1. -/
def PortMode.code : PortMode → Byte
  | .disabled => 0 | .acquiring => 1 | .locked => 2

/-- The tally state code of Table 6-4. -/
def Tally.code : Tally → Byte
  | .idle => 0 | .talking => 1 | .partly => 2 | .waiting => 3 | .absent => 4 | .busy => 5 | .calling => 6

/-- R115: the talk state code. -/
def TalkState.code : TalkState → Byte
  | .held => 0 | .autoUndecided => 1 | .latched => 2

/-- Table 10-2: the return mode code. -/
def ReturnMode.code : ReturnMode → Byte
  | .absent => 0 | .full => 1 | .talkbackOnly => 2

/-- R153: the link flag. -/
def linkFlag (c : Context) : Bool := c.state.echoes && !c.lossMark

/-- R16. -/
def qualified (s : State) (p : Port) : Bool := decide (Config.qualifiedRun ≤ s.ports[p].qualification)

/-- R16. -/
def settled (s : State) (p : Port) : Bool := decide (Config.settledRun ≤ s.ports[p].qualification)

/-- LAW[c]: the coefficient the live LAW table holds for code c (R43). -/
def lawOf (s : State) (code : Byte) : Nat := (s.live.law[code.toFin]).toNat

end Sys2Proof.Machine
end

