-- ==== Sys2Proof/Machine/Operands.lean ====
section
/-! DEFINITION. What the bytes of a request or a page stand for: the table entries on the lane (R41,
Table 3-2) with their checks (R42, R46 to R53, R56), and the pages of Table 8-3 with theirs (R137). -/

namespace Sys2Proof.Machine

/-! ### Table codes (Table 3-2) -/

inductive TableId where
  | device | law | destination | group | panel | key | contributor
  deriving DecidableEq, Repr

def TableId.ofCode (b : Byte) : Option TableId :=
  match b.toNat with
  | 1 => some .device
  | 2 => some .law
  | 3 => some .destination
  | 4 => some .group
  | 5 => some .panel
  | 6 => some .key
  | 7 => some .contributor
  | _ => none

def TableId.code : TableId → Byte
  | .device => 1 | .law => 2 | .destination => 3 | .group => 4 | .panel => 5 | .key => 6
  | .contributor => 7

/-- The number of entries of a table (Table 3-1). -/
def TableId.entries : TableId → Nat
  | .device => 1 | .law => 256 | .destination => 128 | .group => 16 | .panel => 64 | .key => 256
  | .contributor => 8

/-- The entry length of Table 3-2 as read from the entry's own count byte; none when that byte is missing. -/
def TableId.entryLength (t : TableId) (bytes : List Byte) : Option Nat :=
  match t with
  | .device => bytes[3]?.map fun n => 12 + n.toNat
  | .law => some 2
  | .destination => bytes[6]?.map fun n => 7 + 2 * n.toNat
  | .group => bytes[0]?.map fun n => 1 + n.toNat
  | .panel => some 5
  | .key => some 10
  | .contributor => some 15

/-! ### Field checks -/

/-- A field at fault: its field number and its item number (R56). -/
structure FieldFault where
  field : Nat
  item  : Nat
  deriving DecidableEq, Repr

/-- A byte in its field's range. -/
def upTo (n : Nat) (b : Byte) : Bool := decide (b.toNat ≤ n)

/-- A byte in its field's range or none (255). -/
def upToOrNone (n : Nat) (b : Byte) : Bool := decide (b.toNat ≤ n) || b == 255

/-- 1..254, a panel or gateway address. -/
def isAddress (b : Byte) : Bool := b != 0 && b != 255

/-- The first of the fields that is at fault, in the order of the field list. -/
def firstFault : List (Nat × Bool) → Option FieldFault
  | [] => none
  | (n, ok) :: rest => if ok then firstFault rest else some ⟨n, 0⟩

/-- R56: the position of the first item at fault, counting from `at_`; `seen` are the keys of the
items before it. An item is at fault when `bad` says so or when its key is among them. -/
def itemFault {α : Type} (key : α → Byte) (bad : α → Bool) : List α → List Byte → Nat → Option Nat
  | [], _, _ => none
  | x :: rest, seen, n =>
    if bad x || seen.contains (key x) then some n else itemFault key bad rest (key x :: seen) (n + 1)

/-- R56: a list field: a count above the greatest length is item 0, else the first item at fault. -/
def listFault {α : Type} (field greatest count : Nat) (key : α → Byte) (bad : α → Bool) (items : List α) :
    Option FieldFault :=
  if greatest < count then some ⟨field, 0⟩ else (itemFault key bad items [] 1).map fun n => ⟨field, n⟩

/-- The items of a mix list on the lane: pairs of a source and a gain code. -/
def pairs : List Byte → List (Byte × Byte)
  | a :: b :: rest => (a, b) :: pairs rest
  | _ => []

/-! ### DEVICE (Table 3-3, R42) -/

def deviceFault (trunk notice address count : Byte) (cands flags : List Byte) : Option FieldFault :=
  (firstFault
    [(1, upToOrNone 7 trunk), (2, upToOrNone 7 notice),
     (3, address != 255 && (notice == 255) == (address == 0))]).or
  ((listFault 4 3 count.toNat id (fun c => !upTo 7 c) cands).or
    (firstFault [(5, flags.all (upTo 1))]))

def decodeDevice (bytes : List Byte) : Except FieldFault DeviceEntry :=
  match bytes with
  | trunk :: notice :: address :: count :: rest =>
    let cands := rest.take count.toNat
    let flags := rest.drop count.toNat
    match deviceFault trunk notice address count cands flags with
    | some f => .error f
    | none => .ok
        { trunk := portOf trunk, noticePort := portOf notice
          noticeAddress := if address = 0 then none else some address
          candidates := cands.filterMap portOf
          enabled := Vector.ofFn fun i : Fin 8 => flags.getD i.val 0 == 1 }
  | _ => .error ⟨0, 0⟩

def encodeDevice (e : DeviceEntry) : List Byte :=
  [optByte e.trunk, optByte e.noticePort, e.noticeAddress.getD 0, byte e.candidates.length]
    ++ e.candidates.map (fun p => byte p.val) ++ e.enabled.toList.map yesNo

/-! ### DESTINATION (Table 3-5, R46) -/

def destinationFault (programme exclude refuse count : Byte) (items : List (Byte × Byte)) :
    Option FieldFault :=
  (firstFault [(1, upToOrNone 127 programme), (4, upToOrNone 127 exclude), (6, upTo 1 refuse)]).or
  (listFault 7 12 count.toNat Prod.fst
    (fun it => !upTo 127 it.1 || it.2 == 0 || it.1 == programme) items)

def decodeDestination (bytes : List Byte) : Except FieldFault DestinationEntry :=
  match bytes with
  | programme :: pcode :: dim :: exclude :: master :: refuse :: count :: rest =>
    match destinationFault programme exclude refuse count (pairs rest) with
    | some f => .error f
    | none => .ok
        { programme := sourceOf programme, programmeCode := pcode, dimCode := dim
          exclude := sourceOf exclude, defaultMaster := master, refuse := refuse == 1
          mix := (pairs rest).filterMap fun it => (sourceOf it.1).map fun x => (x, it.2) }
  | _ => .error ⟨0, 0⟩

def encodeDestination (e : DestinationEntry) : List Byte :=
  [optByte e.programme, e.programmeCode, e.dimCode, optByte e.exclude, e.defaultMaster, yesNo e.refuse,
   byte e.mix.length] ++ e.mix.flatMap fun it => [byte it.1.val, it.2]

/-! ### GROUP (R47) -/

def destOf (b : Byte) : Option Dest := if h : b.toNat < 128 then some ⟨b.toNat, h⟩ else none

def decodeGroup (bytes : List Byte) : Except FieldFault (List Dest) :=
  match bytes with
  | count :: items =>
    match listFault 1 24 count.toNat id (fun d => !upTo 127 d) items with
    | some f => .error f
    | none => .ok (items.filterMap destOf)
  | [] => .error ⟨0, 0⟩

def encodeGroup (members : List Dest) : List Byte :=
  byte members.length :: members.map fun d => byte d.val

/-! ### PANEL (Table 3-6, R48, R53) -/

def decodePanel (bytes : List Byte) : Except FieldFault PanelEntry :=
  match bytes with
  | [use, address, port, mic, listen] =>
    match firstFault
        [(1, upTo 1 use), (2, use == 0 || isAddress address), (3, use == 0 || upTo 7 port),
         (4, use == 0 || upTo 127 mic), (5, use == 0 || upToOrNone 127 listen)] with
    | some f => .error f
    | none => .ok { inUse := use == 1, address := address, port := port, mic := mic, listen := listen }
  | _ => .error ⟨0, 0⟩

def encodePanel (e : PanelEntry) : List Byte := [yesNo e.inUse, e.address, e.port, e.mic, e.listen]

/-! ### KEY (Table 3-7, R50, R53) -/

def decodeKey (bytes : List Byte) : Except FieldFault KeyEntry :=
  match bytes with
  | [use, panel, number, kind, target, mode, priority, interrupt, gain, timeout] =>
    match firstFault
        [(1, upTo 1 use), (2, use == 0 || upTo 63 panel), (3, use == 0 || upTo 31 number),
         (4, use == 0 || upTo 1 kind), (5, use == 0 || upTo (if kind = 0 then 127 else 15) target),
         (6, use == 0 || upTo 2 mode), (7, use == 0 || upTo 7 priority),
         (8, use == 0 || upTo 1 interrupt), (9, use == 0 || gain != 0)] with
    | some f => .error f
    | none => .ok
        { inUse := use == 1, panel := panel, number := number, kind := kind, target := target
          mode := mode, priority := priority, interrupt := interrupt, gain := gain, timeout := timeout }
  | _ => .error ⟨0, 0⟩

def encodeKey (e : KeyEntry) : List Byte :=
  [yesNo e.inUse, e.panel, e.number, e.kind, e.target, e.mode, e.priority, e.interrupt, e.gain, e.timeout]

/-! ### CONTRIBUTOR (Table 3-8, R52, R53) -/

/-- R52: none (0) or 20..2000 ms. -/
def overrideOk (v : BitVec 16) : Bool := v == 0 || (decide (20 ≤ v.toNat) && decide (v.toNat ≤ 2000))

def decodeContributor (bytes : List Byte) : Except FieldFault ContributorEntry :=
  match bytes with
  | [use, port, gateway, source, ret, full, talkback, dormant, call, oHi, oLo, wot, woc, panel, key] =>
    match firstFault
        [(1, upTo 1 use), (2, use == 0 || upTo 7 port), (3, use == 0 || isAddress gateway),
         (4, use == 0 || upTo 127 source), (5, use == 0 || upTo 127 ret), (6, use == 0 || upTo 1 full),
         (7, use == 0 || upTo 1 talkback), (8, use == 0 || upTo 1 dormant), (9, use == 0 || upTo 1 call),
         (10, use == 0 || overrideOk (of16 oHi oLo)), (11, use == 0 || upTo 1 wot),
         (12, use == 0 || upTo 1 woc), (13, use == 0 || upToOrNone 63 panel),
         (14, use == 0 || upTo 31 key)] with
    | some f => .error f
    | none => .ok
        { inUse := use == 1, port := port, gateway := gateway, source := source, ret := ret, full := full
          talkback := talkback, dormant := dormant, call := call, override := of16 oHi oLo
          wakeOnTalk := wot, wakeOnCall := woc, callPanel := panel, callKey := key }
  | _ => .error ⟨0, 0⟩

def encodeContributor (e : ContributorEntry) : List Byte :=
  [yesNo e.inUse, e.port, e.gateway, e.source, e.ret, e.full, e.talkback, e.dormant, e.call]
    ++ be16 e.override ++ [e.wakeOnTalk, e.wakeOnCall, e.callPanel, e.callKey]

/-- The abilities a CONTRIBUTOR entry offers (R51). -/
def ContributorEntry.offers (e : ContributorEntry) : Abilities :=
  { fullReturn := e.full == 1, talkbackReturn := e.talkback == 1, dormantCapable := e.dormant == 1
    callCapable := e.call == 1 }

/-! ### Whole tables -/

/-- R60: the zero-filled entry of a table: its length with no items, every byte 0. -/
def zeroEntry (t : TableId) : List Byte := List.replicate ((t.entryLength (List.replicate 8 0)).getD 0) 0

/-- The entry of a table at an index, as it is carried on the lane (R41); zero-filled beyond the
table's index range (R60). -/
def entryBytes (tb : Tables) (t : TableId) (index : Byte) : List Byte :=
  match t with
  | .device => if index = 0 then encodeDevice tb.device else zeroEntry .device
  | .law => be16 tb.law[index.toFin]
  | .destination =>
    if h : index.toNat < 128 then encodeDestination tb.destinations[index.toNat] else zeroEntry .destination
  | .group => if h : index.toNat < 16 then encodeGroup tb.groups[index.toNat] else zeroEntry .group
  | .panel => if h : index.toNat < 64 then encodePanel tb.panels[index.toNat] else zeroEntry .panel
  | .key => encodeKey tb.keys[index.toFin]
  | .contributor =>
    if h : index.toNat < 8 then encodeContributor tb.contributors[index.toNat] else zeroEntry .contributor

/-- R55, R56: the tables with the entry replaced whole by the one the bytes carry, or the first fault. -/
def replaceEntry (tb : Tables) (t : TableId) (index : Byte) (bytes : List Byte) : Except FieldFault Tables :=
  match t with
  | .device => (decodeDevice bytes).map fun e => { tb with device := e }
  | .law =>
    match bytes with
    | [hi, lo] => .ok { tb with law := tb.law.set index.toFin (of16 hi lo) }
    | _ => .error ⟨0, 0⟩
  | .destination =>
    (decodeDestination bytes).map fun e =>
      if h : index.toNat < 128 then { tb with destinations := tb.destinations.set index.toNat e } else tb
  | .group =>
    (decodeGroup bytes).map fun e =>
      if h : index.toNat < 16 then { tb with groups := tb.groups.set index.toNat e } else tb
  | .panel =>
    (decodePanel bytes).map fun e =>
      if h : index.toNat < 64 then { tb with panels := tb.panels.set index.toNat e } else tb
  | .key => (decodeKey bytes).map fun e => { tb with keys := tb.keys.set index.toFin e }
  | .contributor =>
    (decodeContributor bytes).map fun e =>
      if h : index.toNat < 8 then { tb with contributors := tb.contributors.set index.toNat e } else tb

/-! ### Pages (Table 8-3) -/

/-- A page of a form that a gateway sends (R137). -/
inductive Page where
  | base (flags : PageFlags) (offer : Abilities)
  | tolerance (flags : PageFlags) (ms : BitVec 16)
  | ident (flags : PageFlags) (ident : BitVec 16)
  | null (flags : PageFlags)
  | echoBack (stamp : BitVec 24)
  | call
  | resume
  | close
  | closeAck
  deriving DecidableEq, Repr

/-- A byte of value 0 or 1. -/
def flagOf (b : Byte) : Option Bool := if b = 0 then some false else if b = 1 then some true else none

/-- The three flags of a negotiation page, each 0 or 1. -/
def flagsOf (t a m : Byte) : Option PageFlags :=
  match flagOf t, flagOf a, flagOf m with
  | some t, some a, some m => some ⟨t, a, m⟩
  | _, _, _ => none

/-- R137: the page a payload carries; none where its type, length or flag bytes are not those of a
page that a gateway sends. -/
def parsePage (payload : List Byte) : Option Page :=
  match payload with
  | [] => none
  | type :: rest =>
    match type.toNat, rest with
    | 1, [t, a, m, f, k, d, c] =>
      match flagsOf t a m, flagOf f, flagOf k, flagOf d, flagOf c with
      | some g, some f, some k, some d, some c => some (.base g ⟨f, k, d, c⟩)
      | _, _, _, _, _ => none
    | 2, [t, a, m, hi, lo] => (flagsOf t a m).map fun g => .tolerance g (of16 hi lo)
    | 3, [t, a, m, hi, lo] => (flagsOf t a m).map fun g => .ident g (of16 hi lo)
    | 4, [t, a, m] => (flagsOf t a m).map .null
    | 5, [x, y, z] => some (.echoBack (of24 x y z))
    | 6, [] => some .call
    | 7, [] => some .resume
    | 8, [] => some .close
    | 9, [] => some .closeAck
    | _, _ => none

def flagBytes (f : PageFlags) : List Byte := [yesNo f.toggle, yesNo f.ack, yesNo f.more]

def abilityBytes (a : Abilities) : List Byte :=
  [yesNo a.fullReturn, yesNo a.talkbackReturn, yesNo a.dormantCapable, yesNo a.callCapable]

/-- The payload of a page (Table 8-3). -/
def Page.payload : Page → List Byte
  | .base f a => 1 :: (flagBytes f ++ abilityBytes a)
  | .tolerance f v => 2 :: (flagBytes f ++ be16 v)
  | .ident f v => 3 :: (flagBytes f ++ be16 v)
  | .null f => 4 :: flagBytes f
  | .echoBack v => 5 :: be24 v
  | .call => [6]
  | .resume => [7]
  | .close => [8]
  | .closeAck => [9]

/-- R102: the key number and action of a KEY payload of the right form: DOWN is true. -/
def keyPayload (payload : List Byte) : Option (KeyNumber × Bool) :=
  match payload with
  | [k, a] =>
    match keyNumberOf k, flagOf a with
    | some n, some d => some (n, d)
    | _, _ => none
  | _ => none

end Sys2Proof.Machine
end

