-- ==== Sys2Proof/Machine/Tallies.lean ====
section
/-! DEFINITION. What the panels are told: displayed tallies (section 6.5) and talker lists (section 6.7). -/

namespace Sys2Proof.Machine

/-! ### Where a claim stands -/

/-- A claim's place (Table 7-1); a WAITING claim's position is its index in the queue. -/
inductive Place where
  | active (l : LaneNo)
  | bound (l : LaneNo)
  | waiting
  deriving DecidableEq, Repr

/-- The claim in a lane, ACTIVE or BOUND: the lane's occupant (R121). -/
def Lane.occupant : Lane → Option Claim
  | .active c => some c
  | .releasing b => b
  | .free => none

/-- The claim ACTIVE in a lane. -/
def Lane.activeClaim : Lane → Option Claim
  | .active c => some c
  | _ => none

/-- The place of a lane's claim of talker x. -/
def laneClaim (a : Arbitration) (x : Source) (l : LaneNo) : Option (Place × Claim) :=
  match a.lanes[l] with
  | .active c => if c.talker = x then some (.active l, c) else none
  | .releasing (some c) => if c.talker = x then some (.bound l, c) else none
  | _ => none

/-- R118: the one claim of talker x on a destination, with its place. -/
def findClaim (a : Arbitration) (x : Source) : Option (Place × Claim) :=
  ((List.finRange 4).findSome? (laneClaim a x)).or
    ((a.queue.find? fun c => c.talker == x).map fun c => (.waiting, c))

/-! ### Tallies -/

/-- How a talk's claims stand (R110): W, A and X. -/
structure Standing where
  waiting : Nat
  active  : Nat
  absent  : Nat
  deriving DecidableEq, Repr

/-- R110: one claim counted. -/
def countClaim (s : State) (w : Standing) (id : ClaimId) : Standing :=
  match findClaim s.talk.dests[id.dest] id.talker with
  | some (.active _, _) =>
    if destAbsent s id.dest then { w with absent := w.absent + 1 } else { w with active := w.active + 1 }
  | some (_, _) => { w with waiting := w.waiting + 1 }
  | none => w

def standing (s : State) (t : Talk) : Standing :=
  t.claims.foldl (countClaim s) { waiting := 0, active := 0, absent := 0 }

/-- Table 6-3: the first row that applies. -/
def Standing.aggregate (w : Standing) : Tally :=
  if w.waiting = 0 ∧ w.absent = 0 then .talking
  else if w.waiting = 0 ∧ w.active = 0 then .absent
  else if w.active = 0 ∧ w.absent = 0 then .waiting
  else .partly

/-- The live entry of contributor c names this key position for its calls (R111). -/
def namesPosition (s : State) (c : ContribIndex) (p : PanelIndex) (n : KeyNumber) : Bool :=
  let e := s.live.contributors[c]
  e.callPanel.toNat == p.val && e.callKey.toNat == n.val

/-- A calling mark that names the position is set (R111). -/
def showsCalling (s : State) (p : PanelIndex) (n : KeyNumber) : Bool :=
  (List.finRange 8).any fun c => s.talk.calling[c] && namesPosition s c p n

/-- R111, rows 2 and 3: the tally of the live in-use KEY entry at the position. -/
def keyTally (s : State) (p : PanelIndex) (n : KeyNumber) : Tally :=
  match keyAt s p n with
  | some k =>
    let r := s.talk.keys[k]
    if r.refused then .busy
    else
      match r.talk with
      | some t => (standing s t).aggregate
      | none => .idle
  | none => .idle

/-- R111: the displayed tally of a key position. -/
def displayed (s : State) (p : PanelIndex) (n : KeyNumber) : Tally :=
  if showsCalling s p n then .calling else keyTally s p n

/-- Is the panel in use, and its port LOCKED? Then messages are composed for it (R111, R113). -/
def panelReachable (s : State) (p : PanelIndex) : Option Port :=
  let e := s.live.panels[p]
  if e.inUse then
    match portOf e.port with
    | some q => if s.ports[q].mode = .locked then some q else none
    | none => none
  else none

/-- R111: a TALLY for the position, composed only for a panel in use whose port is LOCKED. -/
def sendTally (p : PanelIndex) (n : KeyNumber) (t : Tally) (s : State) : State :=
  match panelReachable s p with
  | some q =>
    let a := s.live.panels[p].address
    offer q (.tally a (byte n.val)) (message kindTally a s.unit [byte n.val, t.code]) s
  | none => s

/-- The last tally of a position (R101). -/
def lastTally (s : State) (p : PanelIndex) (n : KeyNumber) : Tally := s.talk.lastTally[p][n]

def setLastTally (p : PanelIndex) (n : KeyNumber) (t : Tally) (s : State) : State :=
  s.updTalk fun a => { a with lastTally := a.lastTally.set p (a.lastTally[p].set n t) }

/-- R111: where the displayed tally differs from the last tally, a TALLY is composed and the new value
is the last tally. -/
def refreshPosition (p : PanelIndex) (n : KeyNumber) (s : State) : State :=
  let t := displayed s p n
  if t = lastTally s p n then s else sendTally p n t (setLastTally p n t s)

/-- A key position. -/
abbrev Position := PanelIndex × KeyNumber

/-- Does the displayed tally of the position differ from its last tally? -/
def stale (s : State) (at_ : Position) : Bool := displayed s at_.1 at_.2 != lastTally s at_.1 at_.2

/-- The positions, in the order given, whose displayed tally differs from the last, refreshed. One
position's refresh changes no other's displayed tally. -/
def refreshPositions (positions : List Position) (s : State) : State :=
  (positions.filter (stale s)).foldl (fun s at_ => refreshPosition at_.1 at_.2 s) s

/-- The position of a KEY entry in use. -/
def keyPosition (s : State) (k : KeyIndex) : Option Position :=
  if s.live.keys[k].inUse then positionOf s.live.keys[k] else none

/-- The call position of a contributor. -/
def callPosition (s : State) (c : ContribIndex) : Option Position :=
  match panelOf s.live.contributors[c].callPanel, keyNumberOf s.live.contributors[c].callKey with
  | some p, some n => some (p, n)
  | _, _ => none

/-- The position of a KEY entry, refreshed. -/
def refreshKey (k : KeyIndex) (s : State) : State := refreshPositions (keyPosition s k).toList s

/-- R110, R111: a claim has changed place: the positions of the talks that reference it, refreshed in the
order in which they joined it. -/
def refreshClaim (c : Claim) (s : State) : State :=
  refreshPositions (c.refs.filterMap fun r => keyPosition s r.key) s

/-- The call position of a contributor, refreshed. -/
def refreshCall (c : ContribIndex) (s : State) : State := refreshPositions (callPosition s c).toList s

/-- Every position whose tally an event between takes can change, refreshed: those of KEY entries, ascending,
then the call positions (log 8). Of a talk event that moves claims, whose changes are told as they are taken
(`refreshClaim`, `refreshKey`), it tells what is left. -/
def refreshTallies (s : State) : State :=
  refreshPositions
    ((List.finRange 256).filterMap (keyPosition s) ++ (List.finRange 8).filterMap (callPosition s)) s

/-- R117: every position, panels and key numbers ascending. -/
def refreshAllTallies (s : State) : State :=
  refreshPositions ((List.finRange 64).flatMap fun p => (List.finRange 32).map fun n => (p, n)) s

/-! ### Talker lists -/

/-- R113: the address of the live in-use panel whose mic source is x. -/
def talkerAddress (s : State) (x : Source) : Option Byte :=
  (panelOfMic s x).map fun i => s.live.panels[i].address

/-- R113: the talker list of a destination: the addresses of the ACTIVE claims' talkers, in lane order. -/
def talkerList (s : State) (d : Dest) : List Byte :=
  (List.finRange 4).filterMap fun l =>
    (s.talk.dests[d].lanes[l].activeClaim).bind fun c => talkerAddress s c.talker

/-- R113: a LISTEN with the talker list of the panel's listen destination. -/
def sendListen (p : PanelIndex) (list : List Byte) (s : State) : State :=
  match panelReachable s p with
  | some q =>
    let a := s.live.panels[p].address
    offer q (.listen a) (message kindListen a s.unit (byte list.length :: list)) s
  | none => s

/-- Does the live in-use panel listen to destination d? -/
def listensTo (s : State) (p : PanelIndex) (d : Dest) : Bool :=
  s.live.panels[p].inUse && s.live.panels[p].listen.toNat == d.val

/-- R113: whenever the talker list changes, it is recorded and a LISTEN goes to each listening panel. -/
def refreshTalkers (d : Dest) (s : State) : State :=
  let list := talkerList s d
  if list = s.talk.dests[d].talkers then s
  else
    ((List.finRange 64).filter fun p => listensTo s p d).foldl (fun s p => sendListen p list s)
      (s.updDest d fun a => { a with talkers := list })

/-- The destinations whose talker list has changed, ascending. One list's refresh changes no other. -/
def changedLists (s : State) : List Dest :=
  (List.finRange 128).filter fun d => talkerList s d != s.talk.dests[d].talkers

/-- R113, R131: a LISTEN for each destination whose talker list has changed, with the list as it is at the end of the
event. Where several lanes of one destination enter or leave ACTIVE within one event (a lock lost that releases several
talks, a take), that is one LISTEN with the final list, not one for each lane: the rules leave the number open, and this
is the model's choice (log 8). -/
def refreshTalkerLists (s : State) : State := (changedLists s).foldl (fun s d => refreshTalkers d s) s

/-- R113: a LISTEN with the current list for a panel, unless its listen destination is none. -/
def listenFor (p : PanelIndex) (s : State) : State :=
  match destOf s.live.panels[p].listen with
  | some d => sendListen p (talkerList s d) s
  | none => s

/-- What follows a talk event (R131): tallies, then talker lists (log 8). -/
def refreshTalk (s : State) : State := refreshTalkerLists (refreshTallies s)

end Sys2Proof.Machine
end

