-- ==== Sys2Proof/Machine/Contributors.lean ====
section
/-! DEFINITION. The Contributor Controller: contexts, pages, negotiation, echo, waking, calls and the
delay measurement (chapters 8 and 9). -/

namespace Sys2Proof.Machine

/-! ### Pages -/

/-- A page to the gateway of a CONTRIBUTOR entry, on the entry's port (R34, R136). -/
def sendPageFor (e : ContributorEntry) (payload : List Byte) (s : State) : State :=
  match portOf e.port with
  | some q => offer q .page (message kindPage e.gateway s.unit payload) s
  | none => s

/-- A page of a context, by its live entry (R136). -/
def sendPage (c : ContribIndex) (payload : List Byte) (s : State) : State :=
  sendPageFor s.live.contributors[c] payload s

def closePage : List Byte := [0x08]
def closeAckPage : List Byte := [0x09]
def echoPage (stamp : BitVec 24) : List Byte := 0x0A :: be24 stamp
def wakePage : List Byte := [0x0B]
def modePage (mode : Byte) : List Byte := [0x0C, mode]
def delayPage (ms : Nat) (long : Bool) : List Byte := 0x0D :: (be16 (BitVec.ofNat 16 ms) ++ [yesNo long])

/-- R137: the context's page error counter is increased and the page otherwise disregarded. -/
def pageErr (c : ContribIndex) (s : State) : State :=
  s.updContext c fun x => { x with pageErrors := bump x.pageErrors }

/-! ### Changes of state (R152) -/

/-- R152: the CONTRIBUTOR notice of a context's present state. -/
def contributorNotice (c : ContribIndex) (s : State) : State :=
  raiseNotice .contributor ⟨byte c.val, s.contexts[c].state.code, 0⟩ s

/-- R152: a context takes a new state. A change raises a CONTRIBUTOR notice. -/
def enterState (c : ContribIndex) (new : LinkState) (s : State) : State :=
  if s.contexts[c].state = new then s
  else contributorNotice c (s.updContext c fun x => { x with state := new })

/-- R152: a context takes a new state, which is reported to the Talk Arbiter. It recomputes the tallies
when the return destination's presence changes (R110). -/
def changeState (c : ContribIndex) (new : LinkState) (s : State) : State :=
  if s.contexts[c].state.inService = new.inService then enterState c new s
  else refreshTallies (enterState c new s)

/-- R112: a contributor's calling mark is cleared. -/
def clearCalling (c : ContribIndex) (s : State) : State :=
  s.updTalk fun t => { t with calling := t.calling.set c false }

/-- R149, R156 to R158: the fields of a context that enters DOWN. -/
def Context.entered (x : Context) : Context :=
  { x with
    gatewayToggle := none, lastReply := none, progress := .awaitBase, gatewayOffer := none
    gatewayTolerance := none, gatewayIdent := none, resolved := Abilities.nothing
    returnMode := .absent, echoOutstanding := false, missCount := 0, wakeAttempts := 0
    restartAttempts := 0, callPending := false, average := none, longDelay := false
    lastReported := 0 }

/-- R149: a context enters DOWN and its calling mark is cleared with no acknowledgement (R112); no tally is
recomputed yet. -/
def closeContext (c : ContribIndex) (s : State) : State := clearCalling c (s.updContext c Context.entered)

/-- R149: a context goes to DOWN from another state, and its return destination's and its call position's tallies
follow. -/
def goDown (c : ContribIndex) (s : State) : State := refreshCall c (changeState c .down (closeContext c s))

/-- R150: a loss. -/
def loss (c : ContribIndex) (s : State) : State :=
  goDown c (s.updContext c fun x => { x with lossMark := true, losses := bump x.losses })

/-! ### Echo and delay (R148, R155 to R158) -/

/-- R148: the part sends ECHO with the low 24 bits of the last frame start's number. -/
def sendEcho (c : ContribIndex) (s : State) : State :=
  let stamp : BitVec 24 := s.now.setWidth 24
  sendPage c (echoPage stamp)
    (s.updContext c fun x => { x with echoFrame := s.now, latestStamp := stamp, echoOutstanding := true })

/-- R158: a DELAY page with the average as it stands, which becomes the last reported delay. -/
def sendDelay (c : ContribIndex) (s : State) : State :=
  let x := s.contexts[c]
  let a := x.average.getD 0
  sendPage c (delayPage (a / 48) x.longDelay) (s.updContext c fun x => { x with lastReported := a })

/-- R141, R145, R148, R156, R157: a context enters ACTIVE from NEGOTIATING, WAKING or DORMANT: the
average restarts, DELAY and then the first ECHO are sent, behind the notice and the TALLYs of the change (log 8). -/
def enterActive (c : ContribIndex) (s : State) : State :=
  let s := s.updContext c fun x =>
    { x with missCount := 0, echoOutstanding := false, wakeAttempts := 0, average := none, longDelay := false }
  sendEcho c (sendDelay c (changeState c .active s))

/-- R148: the echo interval of a state. -/
def echoInterval : LinkState → Nat
  | .dormant => Config.dormantEchoFrames
  | _ => Config.echoFrames

/-- R156: the delay average after a sample. -/
def newAverage (old : Option Nat) (sample : Nat) : Nat :=
  match old with
  | none => sample
  | some a => (3 * a + sample + 2) / 4

/-- R157: the LONG_DELAY flag from the new average, against the tolerance in frames. -/
def newLongDelay (flag : Bool) (tolerance a : Nat) : Bool :=
  let t := tolerance * 48
  if flag then decide (¬ a ≤ t - t / 8) else decide (t < a)

/-- The distance of two numbers. -/
def distance (a b : Nat) : Nat := (a - b) + (b - a)

/-- R156 to R158: a sample that is not stale updates the average and the flag; a DELAY page follows a
change of the flag or a move of more than 48 frames. -/
def takeSample (c : ContribIndex) (sample : Nat) (s : State) : State :=
  let x := s.contexts[c]
  let a := newAverage x.average sample
  let flag := newLongDelay x.longDelay x.tolerance a
  let s := s.updContext c fun x => { x with average := some a, longDelay := flag }
  if flag ≠ x.longDelay ∨ 48 < distance a x.lastReported then sendDelay c s else s

/-- R155: the delay sample of an answer, modulo 2^24. -/
def delaySample (s : State) (stamp : BitVec 24) : Nat := (s.now.setWidth 24 - stamp : BitVec 24).toNat

/-! ### Negotiation (section 8.3) -/

/-- What a context keeps of a negotiation that starts afresh (R138). -/
def Context.negotiationBegun (x : Context) (now : FrameNo) : Context :=
  { x with
    gatewayOffer := none, gatewayTolerance := none, gatewayIdent := none, pageFrame := now
    echoOutstanding := false, missCount := 0, wakeAttempts := 0, restartAttempts := 0 }

/-- R138: a context enters NEGOTIATING; its notice comes before the BASE that the part then sends (log 8). -/
def enterNegotiating (c : ContribIndex) (s : State) : State :=
  changeState c .negotiating (s.updContext c fun x => x.negotiationBegun s.now)

/-- The part flips its toggle and sends a negotiation page, which becomes the last reply; every page
it sends carries more 0 (section 8.3). -/
def sendReplyPage (c : ContribIndex) (page : PageFlags → Page) (ack : Bool) (s : State) : State :=
  let toggle := !s.contexts[c].partToggle
  let payload := (page ⟨toggle, ack, false⟩).payload
  sendPage c payload (s.updContext c fun x => { x with partToggle := toggle, lastReply := some payload })

/-- The part's own BASE, with the offered abilities of the live entry (R138). -/
def sendBase (c : ContribIndex) (ack : Bool) (s : State) : State :=
  sendReplyPage c (fun f => .base f s.live.contributors[c].offers) ack s

/-- R141: the abilities present in both sets. -/
def commonAbilities (a b : Abilities) : Abilities :=
  { fullReturn := a.fullReturn && b.fullReturn, talkbackReturn := a.talkbackReturn && b.talkbackReturn
    dormantCapable := a.dormantCapable && b.dormantCapable, callCapable := a.callCapable && b.callCapable }

/-- R141: the return mode of a set of resolved abilities. -/
def returnModeOf (a : Abilities) : ReturnMode :=
  if a.fullReturn then .full else if a.talkbackReturn then .talkbackOnly else .absent

/-- R141: the tolerance of a completed negotiation, in ms. -/
def resolvedTolerance (override : BitVec 16) (asked : Option (BitVec 16)) : Nat :=
  if override ≠ 0 then override.toNat
  else
    match asked with
    | some v => min 2000 (max 20 v.toNat)
    | none => Config.defaultTolerance

/-- R141: the negotiation completes: the link is resolved and goes ACTIVE, or it fails to DOWN. -/
def completeNegotiation (c : ContribIndex) (s : State) : State :=
  let e := s.live.contributors[c]
  let x := s.contexts[c]
  let r := commonAbilities (x.gatewayOffer.getD Abilities.nothing) e.offers
  match returnModeOf r with
  | .absent => goDown c s
  | m =>
    enterActive c (s.updContext c fun x =>
      { x with
        resolved := r, returnMode := m, tolerance := resolvedTolerance e.override x.gatewayTolerance
        ident := x.gatewayIdent.getD 0 })

/-- R140: a BASE is accepted: the exchange begins afresh and is answered with the part's BASE. -/
def acceptBase (c : ContribIndex) (f : PageFlags) (offer : Abilities) (s : State) : State :=
  let s := s.updContext c fun x =>
    { x with
      gatewayToggle := some f.toggle, gatewayOffer := some offer, gatewayTolerance := none
      gatewayIdent := none, progress := if f.more then .awaitNext else x.progress }
  let s := sendBase c true s
  if f.more then s else completeNegotiation c s

/-- R139: the last reply is offered again, unchanged. -/
def resendReply (c : ContribIndex) (s : State) : State :=
  match s.contexts[c].lastReply with
  | some payload => sendPage c payload s
  | none => s

/-- The page frame becomes the number of the last frame start (R139, R140). -/
def setPageFrame (c : ContribIndex) (s : State) : State :=
  s.updContext c fun x => { x with pageFrame := s.now }

/-- Is the page a repeat of the one last accepted (R139)? -/
def isRepeat (x : Context) (f : PageFlags) : Bool := x.gatewayToggle == some f.toggle

/-- R138 to R140: a gateway BASE by the context's state. -/
def takeBase (c : ContribIndex) (f : PageFlags) (offer : Abilities) (s : State) : State :=
  let x := s.contexts[c]
  match x.state with
  | .down => acceptBase c f offer (enterNegotiating c s)
  | .negotiating =>
    let s := setPageFrame c s
    if isRepeat x f then resendReply c s else acceptBase c f offer s
  | _ =>
    if isRepeat x f then resendReply c s
    else
      acceptBase c f offer
        (enterNegotiating c (s.updContext c fun x => { x with restarts := bump x.restarts }))

/-- R140: a TOLERANCE, IDENT or NULL that is accepted: `set` records what it carries. -/
def acceptNext (c : ContribIndex) (f : PageFlags) (set : Context → Context) (s : State) : State :=
  let s := s.updContext c fun x => { set x with gatewayToggle := some f.toggle }
  let s := sendReplyPage c .null true s
  if f.more then s else completeNegotiation c s

/-- R139, R140: a gateway TOLERANCE, IDENT or NULL by the context's state. -/
def takeNext (c : ContribIndex) (f : PageFlags) (set : Context → Context) (s : State) : State :=
  let x := s.contexts[c]
  match x.state with
  | .negotiating =>
    let s := setPageFrame c s
    if isRepeat x f then resendReply c s
    else if x.progress = .awaitNext ∧ f.ack = true then acceptNext c f set s
    else pageErr c s
  | .down => pageErr c s
  | _ => if isRepeat x f then resendReply c s else pageErr c s

/-! ### Waking and calls (section 8.5) -/

/-- R145: the context enters WAKING and the part sends WAKE, before the notice of the change (log 8). -/
def enterWaking (c : ContribIndex) (s : State) : State :=
  let s := s.updContext c fun x =>
    { x with wakeAttempts := 1, wakeFrame := s.now, echoOutstanding := false, missCount := 0 }
  changeState c .waking (sendPage c wakePage s)

/-- R146: the claim activated report names the contributor whose return destination is d. The report is taken at the
activation, so the WAKE page and the notice of a wake stand before the event's LISTENs (log 8). -/
def claimActivated (d : Dest) (s : State) : State :=
  match contributorOfReturn s d with
  | some c =>
    if s.contexts[c].state = .dormant ∧ s.live.contributors[c].wakeOnTalk = 1 then enterWaking c s else s
  | none => s

/-- R145: a gateway RESUME. -/
def takeResume (c : ContribIndex) (s : State) : State :=
  match s.contexts[c].state with
  | .dormant | .waking => enterActive c s
  | _ => pageErr c s

/-- R147: a gateway CALL. -/
def takeCall (c : ContribIndex) (s : State) : State :=
  let x := s.contexts[c]
  if x.state.echoes ∧ x.resolved.callCapable then
    let id := be16 x.ident
    let s := raiseNotice .call ⟨byte c.val, id.getD 0 0, id.getD 1 0⟩ s
    let s := s.updContext c fun x => { x with callPending := true }
    let s := s.updTalk fun t => { t with calling := t.calling.set c true }
    let s := refreshCall c s
    if x.state = .dormant ∧ s.live.contributors[c].wakeOnCall = 1 then enterWaking c s else s
  else pageErr c s

/-- R112, R147: a call acknowledged by a press of its key. -/
def acknowledgeCall (c : ContribIndex) (s : State) : State :=
  (clearCalling c s).updContext c fun x => { x with callPending := false }

/-- R151, R155: a gateway ECHO_BACK. -/
def takeEchoBack (c : ContribIndex) (stamp : BitVec 24) (s : State) : State :=
  let x := s.contexts[c]
  if x.state.echoes ∧ x.echoOutstanding ∧ stamp = x.latestStamp then
    let sample := delaySample s stamp
    let s := s.updContext c fun x => { x with echoOutstanding := false, missCount := 0 }
    if Config.staleAbove < sample then pageErr c s else takeSample c sample s
  else pageErr c s

/-- R144: a gateway CLOSE is answered in every state. -/
def takeClose (c : ContribIndex) (s : State) : State :=
  let s := sendPage c closeAckPage s
  if s.contexts[c].state = .down then s else goDown c s

/-- R144: a gateway CLOSE_ACK. -/
def takeCloseAck (c : ContribIndex) (s : State) : State :=
  if s.contexts[c].state = .closing then goDown c s else pageErr c s

/-! ### Timers -/

/-- R142: the negotiation times out, once 24,000 frames have passed since the page frame. -/
def negotiationTimeout (c : ContribIndex) (s : State) : State :=
  let x := s.contexts[c]
  if x.state = .negotiating ∧ Config.pageFrames ≤ s.since x.pageFrame then
    if x.restartAttempts < 3 then
      sendBase c false (s.updContext c fun x =>
        { x with
          restartAttempts := x.restartAttempts + 1, restarts := bump x.restarts
          pageFrame := s.now, gatewayToggle := none, gatewayOffer := none, gatewayTolerance := none
          gatewayIdent := none, progress := .awaitBase })
    else goDown c s
  else s

/-- R148: an echo due moment. -/
def echoDue (c : ContribIndex) (s : State) : State :=
  let x := s.contexts[c]
  if x.state.echoes ∧ echoInterval x.state ≤ s.since x.echoFrame then
    if x.echoOutstanding then
      let s := s.updContext c fun x => { x with missCount := x.missCount + 1 }
      if 3 ≤ x.missCount + 1 then loss c s else sendEcho c s
    else sendEcho c s
  else s

/-- R145: the wake expiry. -/
def wakeExpiry (c : ContribIndex) (s : State) : State :=
  let x := s.contexts[c]
  if x.state = .waking ∧ Config.wakeFrames ≤ s.since x.wakeFrame then
    if x.wakeAttempts < 3 then
      sendPage c wakePage (s.updContext c fun x =>
        { x with wakeAttempts := x.wakeAttempts + 1, wakeFrame := s.now })
    else loss c s
  else s

/-- R144: the close timeout. -/
def closeTimeout (c : ContribIndex) (s : State) : State :=
  let x := s.contexts[c]
  if x.state = .closing ∧ Config.pageFrames ≤ s.since x.closeFrame then goDown c s else s

/-! ### Commands (section 8.4) -/

/-- The answer to an allowed action: OK with the index and the new state (R143). -/
def commandDone (e : Env) (tag : Byte) (c : ContribIndex) (s : State) : State :=
  reply e nContributor tag rOk [byte c.val, s.contexts[c].state.code] s

/-- The answer to an action not allowed in the present state (R143). -/
def commandRefused (e : Env) (tag : Byte) (c : ContribIndex) (s : State) : State :=
  reply e nContributor tag rBadState [byte c.val, s.contexts[c].state.code] s

/-- R143: the checks of a CONTRIBUTOR request, in order; a request that passes them has its action
applied: none where the action is not allowed in the present state. -/
def contributorRequest (e : Env) (tag : Byte) (fields : List Byte)
    (act : ContribIndex → State → Option State) (s : State) : State :=
  request e nContributor tag fields (fun s =>
    match fields with
    | [index, action] =>
      match contributorOf index with
      | none => reply e nContributor tag rOutOfRange [index, action] s
      | some c =>
        if 7 < action.toNat then reply e nContributor tag rBadField [index, 2, 0] s
        else if s.live.contributors[c].inUse then
          match act c s with
          | some t => commandDone e tag c t
          | none => commandRefused e tag c s
        else reply e nContributor tag rBadState [index, LinkState.down.code] s
    | _ => reply e nContributor tag rBadLength [] s) s

/-- Table 8-5: RESTART (R138); the notice of the change comes before the BASE (log 8). -/
def commandRestart (c : ContribIndex) (s : State) : Option State :=
  some (sendBase c false ((enterNegotiating c s).updContext c fun x =>
    { x with gatewayToggle := none, progress := .awaitBase }))

/-- Table 8-5: a command that moves the context from an allowed state to a new one and sends MODE, before the
notice and the TALLYs of the change (log 8). -/
def commandMode (allowed : Context → Bool) (new : LinkState) (mode : Byte) (c : ContribIndex) (s : State) :
    Option State :=
  if allowed s.contexts[c] then some (changeState c new (sendPage c (modePage mode) s)) else none

/-- Table 8-5: STANDBY. -/
def commandStandby : ContribIndex → State → Option State :=
  commandMode (fun x => x.state == .active) .standby 1

/-- Table 8-5: ACTIVATE, with the DELAY page of R158 behind the notice and the TALLYs of the change (log 8). -/
def commandActivate (c : ContribIndex) (s : State) : Option State :=
  (commandMode (fun x => x.state == .standby) .active 0 c s).map (sendDelay c)

/-- Table 8-5: DORMANT. -/
def commandDormant : ContribIndex → State → Option State :=
  commandMode (fun x => (x.state == .active || x.state == .standby) && x.resolved.dormantCapable) .dormant 2

/-- Table 8-5: WAKE (R145). -/
def commandWake (c : ContribIndex) (s : State) : Option State :=
  if s.contexts[c].state = .dormant then some (enterWaking c s) else none

/-- Table 8-5: LINECHECK_ON. -/
def commandLinecheckOn : ContribIndex → State → Option State :=
  commandMode (fun x => x.state == .active) .linecheck 3

/-- Table 8-5: LINECHECK_OFF, with the DELAY page of R158 behind the notice and the TALLYs of the change (log 8). -/
def commandLinecheckOff (c : ContribIndex) (s : State) : Option State :=
  (commandMode (fun x => x.state == .linecheck) .active 0 c s).map (sendDelay c)

/-- Table 8-5: CLOSE; taken in CLOSING it sends CLOSE again and sets the close frame anew. -/
def commandClose (c : ContribIndex) (s : State) : Option State :=
  if s.contexts[c].state = .down then none
  else
    some (changeState c .closing
      (sendPage c closePage (s.updContext c fun x => { x with closeFrame := s.now })))

/-! ### Pages as messages (R29, R31) -/

/-- R31: the page is dropped and the device unknown gateway counter increased. -/
def unknownGatewayDrop (s : State) : State :=
  s.updCounters fun c => { c with unknownGateways := bump c.unknownGateways }

/-- R31: a PAGE handled locally is handed to its context. -/
def pageMessage (e : Env) (payload : List Byte) (k : ContribIndex → State → State) (s : State) : State :=
  heard e kindPage payload (fun s =>
    match contextHeard s e with
    | some c => k c s
    | none => unknownGatewayDrop s) s

/-- What the Contributor Controller does with a page of its form (R138 to R151). -/
def takePage : Page → ContribIndex → State → State
  | .base f offer, c, s => takeBase c f offer s
  | .tolerance f v, c, s => takeNext c f (fun x => { x with gatewayTolerance := some v }) s
  | .ident f v, c, s => takeNext c f (fun x => { x with gatewayIdent := some v }) s
  | .null f, c, s => takeNext c f id s
  | .echoBack v, c, s => takeEchoBack c v s
  | .call, c, s => takeCall c s
  | .resume, c, s => takeResume c s
  | .close, c, s => takeClose c s
  | .closeAck, c, s => takeCloseAck c s

/-- A PAGE message that carries a page of its form. -/
def hearPage (e : Env) (page : Page) (s : State) : State :=
  pageMessage e page.payload (takePage page) s

/-! ### The meanings -/

/-- GATEWAY_BASE (R138 to R141). -/
def execGatewayBase (e : Env) (f : PageFlags) (offer : Abilities) (s : State) :
    Host.Outcome State Fault Refusal := .next (hearPage e (.base f offer) s)

/-- GATEWAY_TOLERANCE (R139 to R141). -/
def execGatewayTolerance (e : Env) (f : PageFlags) (ms : BitVec 16) (s : State) :
    Host.Outcome State Fault Refusal := .next (hearPage e (.tolerance f ms) s)

/-- GATEWAY_IDENT (R139 to R141). -/
def execGatewayIdent (e : Env) (f : PageFlags) (ident : BitVec 16) (s : State) :
    Host.Outcome State Fault Refusal := .next (hearPage e (.ident f ident) s)

/-- GATEWAY_NULL (R139 to R141). -/
def execGatewayNull (e : Env) (f : PageFlags) (s : State) :
    Host.Outcome State Fault Refusal := .next (hearPage e (.null f) s)

/-- GATEWAY_ECHO_BACK (R151, R155). -/
def execGatewayEchoBack (e : Env) (stamp : BitVec 24) (s : State) :
    Host.Outcome State Fault Refusal := .next (hearPage e (.echoBack stamp) s)

/-- GATEWAY_CALL (R147). -/
def execGatewayCall (e : Env) (s : State) : Host.Outcome State Fault Refusal := .next (hearPage e .call s)

/-- GATEWAY_RESUME (R145). -/
def execGatewayResume (e : Env) (s : State) : Host.Outcome State Fault Refusal :=
  .next (hearPage e .resume s)

/-- GATEWAY_CLOSE (R144). -/
def execGatewayClose (e : Env) (s : State) : Host.Outcome State Fault Refusal :=
  .next (hearPage e .close s)

/-- GATEWAY_CLOSE_ACK (R144). -/
def execGatewayCloseAck (e : Env) (s : State) : Host.Outcome State Fault Refusal :=
  .next (hearPage e .closeAck s)

/-- PAGE_ERROR (R137); a payload that is a page of its form is another row's (log 14). -/
def execPageError (e : Env) (payload : List Byte) (s : State) : Host.Outcome State Fault Refusal :=
  .next (if parsePage payload = none then pageMessage e payload pageErr s else s)

/-- UNKNOWN_GATEWAY (R31); no effect where the part knows the gateway on that port (log 14). -/
def execUnknownGateway (e : Env) (payload : List Byte) (s : State) : Host.Outcome State Fault Refusal :=
  .next (if contextHeard s e = none then heard e kindPage payload unknownGatewayDrop s else s)

/-- NEGOTIATION_TIMEOUT (R142). -/
def execNegotiationTimeout (c : ContribIndex) (s : State) : Host.Outcome State Fault Refusal :=
  .next (negotiationTimeout c s)

/-- ECHO_DUE (R148, R150). -/
def execEchoDue (c : ContribIndex) (s : State) : Host.Outcome State Fault Refusal := .next (echoDue c s)

/-- WAKE_EXPIRY (R145, R150). -/
def execWakeExpiry (c : ContribIndex) (s : State) : Host.Outcome State Fault Refusal :=
  .next (wakeExpiry c s)

/-- CLOSE_TIMEOUT (R144). -/
def execCloseTimeout (c : ContribIndex) (s : State) : Host.Outcome State Fault Refusal :=
  .next (closeTimeout c s)

/-- RESTART (R138, R143). -/
def execRestart (e : Env) (tag : Byte) (fields : List Byte) (s : State) :
    Host.Outcome State Fault Refusal := .next (contributorRequest e tag fields commandRestart s)

/-- STANDBY (R143). -/
def execStandby (e : Env) (tag : Byte) (fields : List Byte) (s : State) :
    Host.Outcome State Fault Refusal := .next (contributorRequest e tag fields commandStandby s)

/-- ACTIVATE (R143, R158). -/
def execActivate (e : Env) (tag : Byte) (fields : List Byte) (s : State) :
    Host.Outcome State Fault Refusal := .next (contributorRequest e tag fields commandActivate s)

/-- DORMANT (R143). -/
def execDormant (e : Env) (tag : Byte) (fields : List Byte) (s : State) :
    Host.Outcome State Fault Refusal := .next (contributorRequest e tag fields commandDormant s)

/-- WAKE (R143, R145). -/
def execWake (e : Env) (tag : Byte) (fields : List Byte) (s : State) :
    Host.Outcome State Fault Refusal := .next (contributorRequest e tag fields commandWake s)

/-- LINECHECK_ON (R143). -/
def execLinecheckOn (e : Env) (tag : Byte) (fields : List Byte) (s : State) :
    Host.Outcome State Fault Refusal := .next (contributorRequest e tag fields commandLinecheckOn s)

/-- LINECHECK_OFF (R143, R158). -/
def execLinecheckOff (e : Env) (tag : Byte) (fields : List Byte) (s : State) :
    Host.Outcome State Fault Refusal := .next (contributorRequest e tag fields commandLinecheckOff s)

/-- CLOSE (R143, R144). -/
def execClose (e : Env) (tag : Byte) (fields : List Byte) (s : State) :
    Host.Outcome State Fault Refusal := .next (contributorRequest e tag fields commandClose s)

end Sys2Proof.Machine
end

