-- ==== Sys2Proof/Machine/Claims.lean ====
section
/-! DEFINITION. Claims, lanes and wait queues (chapter 7). -/

namespace Sys2Proof.Machine

/-! ### Parts of a destination's arbitration -/

def setLane (d : Dest) (l : LaneNo) (lane : Lane) (s : State) : State :=
  s.updDest d fun a => { a with lanes := a.lanes.set l lane }

def setQueue (d : Dest) (q : List Claim) (s : State) : State := s.updDest d fun a => { a with queue := q }

/-- R119: a claim with the references `refs`: priority, interrupt and gain code derived again. -/
def Claim.derive (c : Claim) (refs : List Ref) : Claim :=
  let p := refs.foldl (fun m r => max m r.priority) 0
  { c with
    refs := refs, priority := p, interrupt := refs.any (·.interrupt)
    gain := ((refs.find? fun r => r.priority == p).map (·.gain)).getD 0 }

/-- The lowest-numbered FREE lane (R123). -/
def freeLane (a : Arbitration) : Option LaneNo := (List.finRange 4).find? fun l => a.lanes[l] == .free

/-- R123, step 2: of the lanes RELEASING with no bound claim, the one with the lowest applied
coefficient, and among equal coefficients the lowest-numbered. -/
def idleReleasing (s : State) (d : Dest) : Option LaneNo :=
  (List.finRange 4).foldl
    (fun best l =>
      if s.talk.dests[d].lanes[l] = .releasing none then
        match best with
        | none => some l
        | some b => if s.mix[d].lanes[l].applied < s.mix[d].lanes[b].applied then some l else some b
      else best)
    none

/-- R124: does occupant `c` of a later lane come before `best` in the order of preemption? The lowest
priority, then the latest occupancy frame, then the highest-numbered lane. -/
def yieldsBefore (c best : Claim) : Bool :=
  decide (c.priority < best.priority) ||
    (c.priority == best.priority && decide (best.occupancy.toNat ≤ c.occupancy.toNat))

/-- R124: the occupied lane that a preemption would take, with its occupant. -/
def lowestLane (a : Arbitration) : Option (LaneNo × Claim) :=
  (List.finRange 4).foldl
    (fun best l =>
      match a.lanes[l].occupant, best with
      | some c, none => some (l, c)
      | some c, some (b, o) => if yieldsBefore c o then some (l, c) else some (b, o)
      | none, _ => best)
    none

/-- R124: a returned occupant stands ahead of every waiting claim whose priority does not exceed its own. -/
def insertReturned (c : Claim) : List Claim → List Claim
  | [] => [c]
  | x :: rest => if x.priority ≤ c.priority then c :: x :: rest else x :: insertReturned c rest

/-- R125: a claim stands directly behind the last waiting claim whose priority is at least its own. -/
def insertBehind (c : Claim) : List Claim → List Claim
  | [] => [c]
  | x :: rest =>
    if (x :: rest).any fun y => decide (c.priority ≤ y.priority) then x :: insertBehind c rest
    else c :: x :: rest

/-! ### Talks that lose a claim (R108, R109) -/

/-- R109: a release from another cause than the key's own leaves a key that is DOWN in DOWN_SPENT. -/
def spent (p : KeyPos) : KeyPos := if p = .down then .downSpent else p

/-- A talk loses a claim; left with none it is released (R108), its key state set by R109. -/
def KeyRun.loses (r : KeyRun) (id : ClaimId) : KeyRun :=
  match r.talk with
  | some t =>
    let rest := t.claims.filter fun i => i != id
    if rest = [] then { r with talk := none, pos := spent r.pos }
    else { r with talk := some { t with claims := rest } }
  | none => r

/-- Every talk that references a claim which ceases to exist loses it, and its tally follows (R125). -/
def losesAll (d : Dest) (c : Claim) (s : State) : State :=
  refreshClaim c (c.refs.foldl (fun s r => s.updKey r.key fun k => k.loses ⟨c.talker, d⟩) s)

/-! ### Placement (section 7.3) -/

/-- A claim becomes ACTIVE in a lane whose coefficient is 0: the lane term takes its talker and rises
from 0 (R85), its talks' tallies follow and the activation is reported (R131). That these TALLYs come before the WAKE
page and the CONTRIBUTOR notice of a line that the report wakes is the model's choice (log 8). -/
def activate (d : Dest) (l : LaneNo) (c : Claim) (s : State) : State :=
  claimActivated d
    (refreshClaim c
      ((setLane d l (.active c) s).updTerm d l fun _ =>
        { source := some c.talker, applied := 0, drained := false }))

/-- R124, R125: a preempted occupant is returned to the wait queue; a full queue drops its bottom
claim, or the occupant itself. The tallies of the dropped claim come before the occupant's. -/
def returnToQueue (d : Dest) (o : Claim) (s : State) : State :=
  let q := s.talk.dests[d].queue
  if q.length < Config.queueDepth then refreshClaim o (setQueue d (insertReturned o q) s)
  else
    match q.getLast? with
    | some bottom =>
      if bottom.priority < o.priority then
        refreshClaim o (losesAll d bottom (setQueue d (insertReturned o q.dropLast) s))
      else losesAll d o s
    | none => losesAll d o s

/-- R124: claim c preempts occupant o of lane l. -/
def preempt (d : Dest) (l : LaneNo) (o c : Claim) (s : State) : State :=
  returnToQueue d o (setLane d l (.releasing (some { c with occupancy := s.now })) s)

/-- R125: step 4 for a new claim; false where it is not made. -/
def insertNew (d : Dest) (c : Claim) (s : State) : State × Bool :=
  let q := s.talk.dests[d].queue
  if q.length < Config.queueDepth then (setQueue d (insertBehind c q) s, true)
  else
    match q.getLast? with
    | some bottom =>
      if bottom.priority < c.priority then
        (losesAll d bottom (setQueue d (insertBehind c q.dropLast) s), true)
      else (s, false)
    | none => (s, false)

/-- Section 7.3: the four steps of placing a new claim; false where it is not made. -/
def placeNew (d : Dest) (c : Claim) (s : State) : State × Bool :=
  let a := s.talk.dests[d]
  match freeLane a with
  | some l => (activate d l { c with occupancy := s.now } s, true)
  | none =>
    match idleReleasing s d with
    | some l => (setLane d l (.releasing (some { c with occupancy := s.now })) s, true)
    | none =>
      match lowestLane a with
      | some (l, o) => if o.priority < c.priority then (preempt d l o c s, true) else insertNew d c s
      | none => insertNew d c s

/-- The waiting claims without the one of talker x. -/
def withoutTalker (x : Source) (q : List Claim) : List Claim := q.filter fun c => c.talker != x

/-- R130: a claim whose priority rose, already out of the queue, preempts the lowest occupant or is
reinserted. -/
def placeRisen (d : Dest) (c : Claim) (s : State) : State :=
  match lowestLane s.talk.dests[d] with
  | some (l, o) =>
    if o.priority < c.priority then preempt d l o c s
    else setQueue d (insertBehind c s.talk.dests[d].queue) s
  | none => setQueue d (insertBehind c s.talk.dests[d].queue) s

/-- A claim's record replaced where it stands. -/
def putClaim (d : Dest) (p : Place) (c : Claim) (s : State) : State :=
  match p with
  | .active l => setLane d l (.active c) s
  | .bound l => setLane d l (.releasing (some c)) s
  | .waiting =>
    setQueue d (s.talk.dests[d].queue.map fun x => if x.talker = c.talker then c else x) s

/-- R120: a talk joins the claim its talker already holds; false where it has 4 references. -/
def joinClaim (d : Dest) (p : Place) (c : Claim) (r : Ref) (s : State) : State × Bool :=
  if c.refs.length < Config.maxRefs then
    let c' := c.derive (c.refs ++ [r])
    if p = .waiting ∧ c.priority < c'.priority then
      (placeRisen d c' (setQueue d (withoutTalker c.talker s.talk.dests[d].queue) s), true)
    else (putClaim d p c' s, true)
  else (s, false)

/-- R103: a claim is sought on destination d for talker x; true where the talk references one. -/
def seekClaim (x : Source) (r : Ref) (d : Dest) (s : State) : State × Bool :=
  let e := s.live.destinations[d]
  if e.refuse ∨ e.exclude = some x then (s, false)
  else
    match findClaim s.talk.dests[d] x with
    | some (p, c) => joinClaim d p c r s
    | none =>
      let c : Claim :=
        { talker := x, refs := [], priority := 0, interrupt := false, gain := 0, occupancy := 0 }
      placeNew d (c.derive [r]) s

/-! ### Lanes that empty (section 7.4) -/

/-- R127: the queue head takes a lane that became FREE or RELEASING with no bound claim. -/
def promote (d : Dest) (l : LaneNo) (s : State) : State :=
  match s.talk.dests[d].queue with
  | [] => s
  | head :: rest =>
    let c := { head with occupancy := s.now }
    match s.talk.dests[d].lanes[l] with
    | .free => activate d l c (setQueue d rest s)
    | .releasing none => setLane d l (.releasing (some c)) (setQueue d rest s)
    | _ => s

/-- R126: a claim leaves its place. -/
def leavePlace (d : Dest) (p : Place) (c : Claim) (s : State) : State :=
  match p with
  | .active l => promote d l (setLane d l (.releasing none) s)
  | .bound l => promote d l (setLane d l (.releasing none) s)
  | .waiting => setQueue d (withoutTalker c.talker s.talk.dests[d].queue) s

/-- R129: while the head's priority exceeds the lowest occupant priority, the head demotes in. The
first step restores the order in every state the rules reach; 32 steps do in any state (log 13). -/
def demote (d : Dest) : Nat → State → State
  | 0, s => s
  | n + 1, s =>
    match s.talk.dests[d].queue, lowestLane s.talk.dests[d] with
    | head :: rest, some (l, o) =>
      if o.priority < head.priority then demote d n (preempt d l o head (setQueue d rest s)) else s
    | _, _ => s

/-- R126, R129, R130: talk k leaves claim `id`. -/
def removeRef (k : KeyIndex) (id : ClaimId) (s : State) : State :=
  match findClaim s.talk.dests[id.dest] id.talker with
  | none => s
  | some (p, c) =>
    let refs := c.refs.filter fun r => r.key != k
    if refs = [] then leavePlace id.dest p c s
    else
      let c' := c.derive refs
      if p = .waiting then
        if c'.priority < c.priority then
          setQueue id.dest (insertBehind c' (withoutTalker c.talker s.talk.dests[id.dest].queue)) s
        else putClaim id.dest p c' s
      else
        let s := putClaim id.dest p c' s
        if c'.priority < c.priority then demote id.dest 32 s else s

/-- R108: the talk record of key k is freed and leaves its claims, in list order; its tally follows those that
its leaving changes. -/
def releaseTalk (k : KeyIndex) (s : State) : State :=
  match s.talk.keys[k].talk with
  | some t =>
    refreshKey k
      (t.claims.foldl (fun s id => removeRef k id s) (s.updKey k fun r => { r with talk := none }))
  | none => s

/-- R128: the answer to a lane drained report, by the lane's state as it stands. -/
def answerDrained (d : Dest) (l : LaneNo) (s : State) : State :=
  match s.talk.dests[d].lanes[l] with
  | .releasing bound =>
    if s.mix[d].lanes[l].applied = 0 then
      match bound with
      | some c => activate d l c s
      | none =>
        (setLane d l .free s).updTerm d l fun _ => { source := none, applied := 0, drained := false }
    else s
  | _ => s.updTerm d l fun t => { t with drained := false }

/-! ### Takes and clearing (section 7.7) -/

/-- R132: a lane is cut to FREE with applied coefficient 0. -/
def cutLane (d : Dest) (l : LaneNo) (s : State) : State :=
  (setLane d l .free s).updTerm d l fun _ => { source := none, applied := 0, drained := false }

/-- R132: the claim of the newly excluded source x on d is removed, whatever its place. -/
def excludeTalker (d : Dest) (x : Source) (s : State) : State :=
  match findClaim s.talk.dests[d] x with
  | some (.active l, c) => promote d l (losesAll d c (cutLane d l s))
  | some (p, c) => leavePlace d p c (losesAll d c s)
  | none => s

/-- R133: the queue is emptied and every claim in the lanes removed. That the queue goes from its head and the lanes
from 0 to 3, which orders the TALLYs, is the model's choice (log 9). -/
def refuseTalk (d : Dest) (s : State) : State :=
  let a := s.talk.dests[d]
  let s := a.queue.foldl (fun s c => losesAll d c s) (setQueue d [] s)
  (List.finRange 4).foldl
    (fun s l =>
      match a.lanes[l].occupant with
      | some c => losesAll d c (setLane d l (.releasing none) s)
      | none => s)
    s

/-- R134: every lane of a destination becomes FREE and its queue empty. -/
def Arbitration.cleared (a : Arbitration) : Arbitration :=
  { a with lanes := Vector.replicate 4 .free, queue := [] }

/-- R99: every lane term of a destination is cut, its source none, with no report. -/
def MixState.talkCut (m : MixState) : MixState := { m with lanes := Vector.replicate 4 .reset }

end Sys2Proof.Machine
end

