-- ==== Sys2Proof/Machine/Talk.lean ====
section
/-! DEFINITION. Keys, talks and levels (chapter 6), and the QUEUE request (section 7.8). -/

namespace Sys2Proof.Machine

/-! ### Counters of the Talk Arbiter and of R30 -/

/-- R102: a malformed KEY or LEVEL is dropped and counted. -/
def malformedPanelDrop (s : State) : State :=
  s.updCounters fun c => { c with malformedPanel := bump c.malformedPanel }

/-- R102: a KEY for a position with no live in-use KEY entry is dropped and counted. -/
def unknownKeyDrop (s : State) : State :=
  s.updCounters fun c => { c with unknownKeys := bump c.unknownKeys }

/-- R30: a message from a panel the part does not know there is dropped and counted. -/
def unknownPanelDrop (s : State) : State :=
  s.updCounters fun c => { c with unknownPanels := bump c.unknownPanels }

/-! ### Starting a talk (section 6.3) -/

/-- What a talk's key contributes to its claims (R119). -/
def refOf (k : KeyIndex) (e : KeyEntry) : Ref :=
  { key := k, priority := e.priority.toNat, interrupt := e.interrupt == 1, gain := e.gain }

/-- R103: the targets of a key, in order. -/
def targetsOf (s : State) (e : KeyEntry) : List Dest :=
  if e.kind = 0 then (destOf e.target).toList
  else
    match groupOf e.target with
    | some g => s.live.groups[g]
    | none => []

/-- R103: the talker of a key's talks, its panel's mic source. -/
def talkerOf (s : State) (e : KeyEntry) : Option Source :=
  (panelOf e.panel).bind fun p => sourceOf s.live.panels[p].mic

/-- R103: claims are sought on the targets in turn; the claims that the talk references, in order. -/
def seekAll (x : Source) (r : Ref) : List Dest → State → State × List ClaimId
  | [], s => (s, [])
  | d :: rest, s =>
    let (s, ok) := seekClaim x r d s
    let (s, ids) := seekAll x r rest s
    (s, if ok then ⟨x, d⟩ :: ids else ids)

/-- The number of talks (R104). -/
def talkCount (s : State) : Nat := (List.finRange 256).countP fun k => s.talk.keys[k].talk.isSome

/-- R104: the state in which a key's talk begins, by its mode (R41). -/
def firstState (mode : Byte) : TalkState :=
  if mode = 0 then .held else if mode = 1 then .latched else .autoUndecided

/-- R104: a refused DOWN. -/
def refuseKey (k : KeyIndex) (s : State) : State :=
  s.updKey k fun r => { r with pos := .down, refused := true }

/-- R104: the talk record of a DOWN that found claims. -/
def newTalk (mode : Byte) (now : FrameNo) (ids : List ClaimId) : Talk :=
  { state := firstState mode, press := now
    latch := if firstState mode = .latched then some now else none, claims := ids }

/-- R103, R104: a DOWN on a key that is UP and has no talk. -/
def beginTalk (k : KeyIndex) (s : State) : State :=
  let e := s.live.keys[k]
  if Config.maxTalks ≤ talkCount s then refuseKey k s
  else
    match talkerOf s e with
    | none => refuseKey k s
    | some x =>
      let (s, ids) := seekAll x (refOf k e) (targetsOf s e) s
      if ids = [] then refuseKey k s
      else s.updKey k fun r => { r with pos := .down, talk := some (newTalk e.mode s.now ids) }

/-! ### Key events (sections 6.2, 6.4) -/

def setPos (k : KeyIndex) (p : KeyPos) (s : State) : State := s.updKey k fun r => { r with pos := p }

/-- R103, R104, R106: a DOWN taken on a KEY entry. -/
def downOn (k : KeyIndex) (s : State) : State :=
  let r := s.talk.keys[k]
  match r.pos, r.talk with
  | .up, none => beginTalk k s
  | .up, some t => if t.state = .latched then setPos k .downSpent (releaseTalk k s) else s
  | _, _ => s

/-- R105: an AUTO_UNDECIDED talk becomes LATCHED. -/
def latchTalk (k : KeyIndex) (s : State) : State :=
  s.updKey k fun r =>
    { r with pos := .up, talk := r.talk.map fun t => { t with state := .latched, latch := some s.now } }

/-- R105: an UP taken on a KEY entry. -/
def upOn (k : KeyIndex) (s : State) : State :=
  let r := s.talk.keys[k]
  match r.pos with
  | .up => s
  | .downSpent => setPos k .up s
  | .down =>
    match r.talk with
    | some t =>
      match t.state with
      | .held => setPos k .up (releaseTalk k s)
      | .autoUndecided => latchTalk k s
      | .latched => setPos k .up s
    | none => s.updKey k fun r => { r with pos := .up, refused := false }

/-- R112: the contributors whose calling mark is set and names the position. -/
def callsAt (s : State) (p : PanelIndex) (n : KeyNumber) : List ContribIndex :=
  (List.finRange 8).filter fun c => s.talk.calling[c] && namesPosition s c p n

/-- R112: the calling marks that name the position are cleared and acknowledged. -/
def answerCalls (p : PanelIndex) (n : KeyNumber) (s : State) : State :=
  (callsAt s p n).foldl (fun s c => acknowledgeCall c s) s

/-- R102: a DOWN of key number n on panel p. -/
def downAt (p : PanelIndex) (n : KeyNumber) (s : State) : State :=
  let called := !(callsAt s p n).isEmpty
  let s := if called then refreshPosition p n (answerCalls p n s) else s
  match keyAt s p n with
  | some k => refreshTalk (refreshPosition p n (downOn k s))
  | none => if called then s else unknownKeyDrop s

/-- R102: an UP of key number n on panel p. -/
def upAt (p : PanelIndex) (n : KeyNumber) (s : State) : State :=
  match keyAt s p n with
  | some k => refreshTalk (refreshPosition p n (upOn k s))
  | none => unknownKeyDrop s

/-- R30: a KEY or LEVEL handled locally is handed to the Talk Arbiter with its panel. -/
def panelMessage (e : Env) (kind : Byte) (payload : List Byte) (k : PanelIndex → State → State)
    (s : State) : State :=
  heard e kind payload (fun s =>
    match panelHeard s e with
    | some p => k p s
    | none => unknownPanelDrop s) s

/-! ### Levels (R114) -/

/-- R114: the master code of a destination is set. -/
def setMaster (d : Dest) (code : Byte) (s : State) : State := s.updDest d fun a => { a with master := code }

/-- R114: a LEVEL of panel p. -/
def takeLevel (p : PanelIndex) (payload : List Byte) (s : State) : State :=
  match payload with
  | [code] =>
    match destOf s.live.panels[p].listen with
    | some d => setMaster d code s
    | none => s
  | _ => malformedPanelDrop s

/-! ### Time limits (R107) -/

/-- R107: is the AUTO threshold of key k's talk due? -/
def autoDue (k : KeyIndex) (s : State) : Bool :=
  match s.talk.keys[k].talk with
  | some t => t.state == .autoUndecided && decide (Config.autoFrames ≤ s.since t.press)
  | none => false

/-- R107: at press frame plus 12,000 an AUTO_UNDECIDED talk becomes HELD. -/
def autoThreshold (k : KeyIndex) (s : State) : State :=
  if autoDue k s then
    s.updKey k fun r => { r with talk := r.talk.map fun t => { t with state := .held } }
  else s

/-- R107: is the latch timeout of key k's talk due? -/
def latchDue (k : KeyIndex) (s : State) : Bool :=
  match s.talk.keys[k].talk with
  | some t =>
    match t.state, t.latch with
    | .latched, some f =>
      let seconds := s.live.keys[k].timeout.toNat
      decide (seconds ≠ 0) && decide (seconds * Config.second ≤ s.since f)
    | _, _ => false
  | none => false

/-- R109: a talk released from another cause than its key's own event. -/
def releaseOther (k : KeyIndex) (s : State) : State :=
  (releaseTalk k s).updKey k fun r => { r with pos := spent r.pos }

/-- R107: at latch frame plus T seconds a LATCHED talk is released. -/
def latchTimeout (k : KeyIndex) (s : State) : State :=
  if latchDue k s then refreshTalk (releaseOther k s) else s

/-! ### Releases of many talks -/

/-- The port of a live in-use KEY entry's live in-use panel. -/
def keyPort (s : State) (k : KeyIndex) : Option Port :=
  let e := s.live.keys[k]
  if e.inUse then
    (panelOf e.panel).bind fun p => if s.live.panels[p].inUse then portOf s.live.panels[p].port else none
  else none

/-- R109: the talk of the key is released, its key state set to UP and its refused mark cleared. -/
def releaseToUp (k : KeyIndex) (s : State) : State :=
  (releaseTalk k s).updKey k fun r => { r with pos := .up, refused := false }

/-- R8, R108, R109: lock lost on, or disabling of, port p releases the talks of its panels' keys, by ascending
KEY entry (log 8). -/
def releasePort (p : Port) (s : State) : State :=
  ((List.finRange 256).filter fun k => keyPort s k == some p).foldl (fun s k => releaseToUp k s) s

/-! ### Requests (section 6.8, 7.8) -/

/-- R115: RELEASE. -/
def serveRelease (e : Env) (tag : Byte) (fields : List Byte) (s : State) : State :=
  request e nRelease tag fields (fun s =>
    match fields with
    | [pb, nb] =>
      match panelOf pb, keyNumberOf nb with
      | some p, some n =>
        match keyAt s p n with
        | some k =>
          match s.talk.keys[k].talk with
          | some t =>
            reply e nRelease tag rOk [pb, nb, t.state.code]
              (refreshTalk (refreshPosition p n (releaseOther k s)))
          | none => reply e nRelease tag rBadState [pb, nb] s
        | none => reply e nRelease tag rBadState [pb, nb] s
      | _, _ => reply e nRelease tag rOutOfRange [pb, nb] s
    | _ => reply e nRelease tag rBadLength [] s) s

/-- R135: the three bytes of a lane. -/
def laneReport : Lane → List Byte
  | .free => [0, 255, 255]
  | .active c => [1, byte c.talker.val, byte c.priority]
  | .releasing (some c) => [2, byte c.talker.val, byte c.priority]
  | .releasing none => [2, 255, 255]

/-- R135: the data of an OK answer to QUEUE. -/
def queueReport (s : State) (d : Dest) : List Byte :=
  let a := s.talk.dests[d]
  byte d.val :: ((List.finRange 4).flatMap fun l => laneReport a.lanes[l])
    ++ byte a.queue.length :: a.queue.flatMap fun c => [byte c.talker.val, byte c.priority]

/-- R135: QUEUE. -/
def serveQueue (e : Env) (tag : Byte) (fields : List Byte) (s : State) : State :=
  request e nQueue tag fields (fun s =>
    match fields with
    | [db] =>
      match destOf db with
      | some d => reply e nQueue tag rOk (queueReport s d) s
      | none => reply e nQueue tag rOutOfRange [db] s
    | _ => reply e nQueue tag rBadLength [] s) s

/-! ### CLEAR TALK (R116, R134) -/

/-- R116: what CLEAR TALK leaves of a key that had a talk. -/
def KeyRun.cleared (r : KeyRun) : KeyRun :=
  match r.talk with
  | some _ => { r with talk := none, pos := spent r.pos }
  | none => r

/-- R116, R134, R99: every talk, claim, lane and queue is cleared; then the tallies and lists follow. -/
def clearAllTalk (s : State) : State :=
  let s := s.updTalk fun t =>
    { t with keys := t.keys.map KeyRun.cleared, dests := t.dests.map Arbitration.cleared }
  refreshTalk { s with mix := s.mix.map MixState.talkCut }

/-! ### Messages of panels -/

/-- R102: a KEY message. -/
def hearKey (e : Env) (payload : List Byte) (s : State) : State :=
  panelMessage e kindKey payload (fun p s =>
    match keyPayload payload with
    | some (n, true) => downAt p n s
    | some (n, false) => upAt p n s
    | none => malformedPanelDrop s) s

/-- R114: a LEVEL message. -/
def hearLevel (e : Env) (payload : List Byte) (s : State) : State :=
  panelMessage e kindLevel payload (fun p s => takeLevel p payload s) s

/-! ### The meanings -/

/-- KEY_DOWN (R30, R102 to R106, R112): a KEY message with action DOWN. -/
def execKeyDown (e : Env) (payload : List Byte) (s : State) : Host.Outcome State Fault Refusal :=
  .next (panelMessage e kindKey payload (fun p s =>
    match keyPayload payload with
    | some (n, _) => downAt p n s
    | none => malformedPanelDrop s) s)

/-- KEY_UP (R30, R102, R105): a KEY message with action UP. -/
def execKeyUp (e : Env) (payload : List Byte) (s : State) : Host.Outcome State Fault Refusal :=
  .next (panelMessage e kindKey payload (fun p s =>
    match keyPayload payload with
    | some (n, _) => upAt p n s
    | none => malformedPanelDrop s) s)

/-- LEVEL (R30, R114). -/
def execLevel (e : Env) (payload : List Byte) (s : State) : Host.Outcome State Fault Refusal :=
  .next (hearLevel e payload s)

/-- UNKNOWN_PANEL (R30): no effect where the part does know the panel on that port (log 14). -/
def execUnknownPanel (e : Env) (level : Bool) (payload : List Byte) (s : State) :
    Host.Outcome State Fault Refusal :=
  .next (if panelHeard s e = none then
    heard e (if level then kindLevel else kindKey) payload unknownPanelDrop s else s)

/-- LANE_DRAINED (R128). -/
def execLaneDrained (d : Dest) (l : LaneNo) (s : State) : Host.Outcome State Fault Refusal :=
  .next (refreshTalk (answerDrained d l s))

/-- AUTO_THRESHOLD (R107); the talk's tally does not change. -/
def execAutoThreshold (k : KeyIndex) (s : State) : Host.Outcome State Fault Refusal :=
  .next (autoThreshold k s)

/-- LATCH_TIMEOUT (R107). -/
def execLatchTimeout (k : KeyIndex) (s : State) : Host.Outcome State Fault Refusal :=
  .next (latchTimeout k s)

/-- RELEASE (R115). -/
def execRelease (e : Env) (tag : Byte) (fields : List Byte) (s : State) :
    Host.Outcome State Fault Refusal :=
  .next (serveRelease e tag fields s)

/-- QUEUE (R135). -/
def execQueue (e : Env) (tag : Byte) (fields : List Byte) (s : State) :
    Host.Outcome State Fault Refusal :=
  .next (serveQueue e tag fields s)

end Sys2Proof.Machine
end

