-- ==== Sys2Proof/Machine/Clock.lean ====
section
/-! DEFINITION. The Frame Clock: reference selection, holdover and training (sections 1.4 to 1.7). -/

namespace Sys2Proof.Machine

/-- R21: a CLOCK notice with the present state and reference port. -/
def clockNotice (s : State) : State :=
  raiseNotice .clock ⟨s.clock.mode.code, optByte s.clock.reference, 0⟩ s

/-- R14: the timer phase on entering FREE or HOLDOVER is the time since the last frame start. -/
def Clock.onTimer (c : Clock) (mode : ClockMode) : Clock :=
  { c with mode := mode, reference := none, phase := 16 * c.sinceStart, window := none }

/-- R17 to R19: the clock enters, or stays in, LOCKED with a new reference; its window opens at the
first arrival from it. -/
def Clock.lockedTo (c : Clock) (p : Port) : Clock :=
  { c with mode := .locked, reference := some p, fillCount := 0, window := none }

/-- A port becomes the reference. -/
def takeReference (p : Port) (s : State) : State := clockNotice (s.updClock fun c => c.lockedTo p)

/-- The clock enters HOLDOVER with no reference port. -/
def enterHoldover (s : State) : State := clockNotice (s.updClock fun c => c.onTimer .holdover)

/-- R17: the first qualified port of the live candidate list. -/
def firstQualified (s : State) : Option Port := s.live.device.candidates.find? fun p => qualified s p

/-- R18: the clock leaves its reference for the first qualified candidate, or for HOLDOVER. -/
def leaveReference (s : State) : State :=
  match firstQualified s with
  | some p => takeReference p s
  | none => enterHoldover s

/-- R18: port p, gone, was the reference. -/
def referenceGone (p : Port) (s : State) : State :=
  if s.clock.reference = some p then leaveReference s else s

/-- R17: the search of FREE and HOLDOVER. -/
def selectReference (s : State) : State :=
  if s.clock.mode = .locked then s
  else
    match firstQualified s with
    | some p => takeReference p s
    | none => s

/-- R19: the candidates that stand before the reference in the list. -/
def before (p : Port) : List Port → List Port
  | [] => []
  | q :: rest => if q = p then [] else q :: before p rest

/-- R19: the earliest settled candidate before the reference takes over; one that a take has just moved there
waits for the next frame start (log 5). -/
def revertReference (s : State) : State :=
  match s.clock.mode, s.clock.reference with
  | .locked, some p =>
    match (before p s.live.device.candidates).find? fun q => settled s q && !s.clock.revertHold.contains q with
    | some q => takeReference q s
    | none => s
  | _, _ => s

/-- R20: the candidate period of a window of n ticks: n/256 rounded to the nearest integer, halves up. -/
def candidatePeriod (n : Nat) : Nat := (n + 128) / 256

/-- R20: the window closes: its period is accepted or rejected, and the closing arrival opens the next. -/
def Clock.closeWindow (c : Clock) (n : Nat) : Clock :=
  let p := candidatePeriod n
  if Config.leastPeriod ≤ p ∧ p ≤ Config.greatestPeriod then
    { c with period := p, window := some ⟨0, 0⟩ }
  else { c with trainingRejections := bump c.trainingRejections, window := some ⟨0, 0⟩ }

/-- R20: at the 4096th arrival after the one that opened it, the training window closes. -/
def closeTraining (s : State) : State :=
  match s.clock.mode, s.clock.window with
  | .locked, some w =>
    if Config.windowArrivals ≤ w.arrivals then s.updClock fun c => c.closeWindow w.ticks else s
  | _, _ => s

/-- R15, R20: an arrival on the reference port sets the fill count to 0, and opens the training window
or counts toward it. -/
def Clock.referenceArrival (c : Clock) : Clock :=
  { c with
    fillCount := 0
    window :=
      match c.window with
      | none => some ⟨0, 0⟩
      | some w => some { w with arrivals := w.arrivals + 1 } }

/-- n oscillator ticks pass (R14, R15, R20). -/
def Clock.pass (c : Clock) (n : Nat) : Clock :=
  { c with
    sinceStart := c.sinceStart + n
    phase := if c.mode = .locked then c.phase else c.phase + 16 * n
    window := c.window.map fun w => { w with ticks := w.ticks + n } }

/-- R14: ticks until the timer phase reaches the trained period. -/
def Clock.ticksToTimer (c : Clock) : Nat := (c.period - c.phase + 15) / 16

/-- R15: ticks until 1.5 trained periods have passed since the last frame start: the first tick at or
beyond 3P/32. -/
def Clock.ticksToFill (c : Clock) : Nat := (3 * c.period + 31) / 32 - c.sinceStart

/-- The frame start's search or check has been made. -/
def Clock.checked (c : Clock) : Clock := { c with checkOwed := false, revertHold := [] }

/-! ### The meanings -/

/-- REFERENCE_SELECTION (R17). -/
def execReferenceSelection (s : State) : Host.Outcome State Fault Refusal :=
  .next ((selectReference s).updClock Clock.checked)

/-- REVERTIVE_SWITCH (R19). -/
def execRevertiveSwitch (s : State) : Host.Outcome State Fault Refusal :=
  .next ((revertReference s).updClock Clock.checked)

/-- TRAINING_WINDOW_CLOSE (R20). -/
def execTrainingWindowClose (s : State) : Host.Outcome State Fault Refusal := .next (closeTraining s)

end Sys2Proof.Machine
end

