-- ==== Sys2Proof/Machine/Links.lean ====
section
/-! DEFINITION. A Link Port that loses lock, is disabled or is enabled, and one that enters LOCKED
(sections 1.2.2 to 1.2.5). -/

namespace Sys2Proof.Machine

/-- The PORT notice of a port's present state (Table 10-1). -/
def portNotice (p : Port) (s : State) : State :=
  raiseNotice .port ⟨byte p.val, s.ports[p].mode.code, 0⟩ s

/-- R8: own NOTICEs removed from a queue make their classes pending, in queue order. -/
def noticesPending (queue : List EgressEntry) (s : State) : State :=
  queue.foldl (fun s e =>
    match e.origin with
    | .notice k d => setPending k d s
    | _ => s) s

/-- R8, R9A: what a port that leaves its state keeps. -/
def PortState.dropped (q : PortState) (mode : PortMode) : PortState :=
  { q with
    mode := mode, aligned := false, received := [], goodRun := 0, slip := [], primed := false
    lastRead := silence, lastPushed := silence, qualification := 0, assembly := none, egress := []
    fragments := if q.assembly.isSome then bump q.fragments else q.fragments }

/-- The effects of R8 that a lock lost and a disabling share: the port's own, its notices, its PORT
notice and the talks of its panels. The talker lists that these change are told by the caller. -/
def dropPort (p : Port) (mode : PortMode) (s : State) : State :=
  let queue := s.ports[p].egress
  releasePort p (portNotice p (noticesPending queue (s.updPort p fun q => q.dropped mode)))

/-- R8: a message of the queue has started. -/
def anyStarted (queue : List EgressEntry) : Bool := queue.any EgressEntry.started

/-- R8: lock lost on a LOCKED port. -/
def lockLost (p : Port) (s : State) : State :=
  if s.ports[p].mode = .locked then
    referenceGone p
      (refreshTalk (dropPort p .acquiring (s.updPort p fun q =>
        { q with
          abortOwed := q.abortOwed || anyStarted q.egress
          lockLosses := bump q.lockLosses })))
  else s

/-- R9A: a take disables the port; the clock's part and what the panels are told are the take's (R75, R117). The
disabling itself owes no ABORT; one that an earlier lock lost still owes goes out with the next frame that the port
transmits, once it is enabled again (R8, log 30). -/
def disablePort (p : Port) (s : State) : State := dropPort p .disabled s

/-- R9A: a take enables the port. -/
def enablePort (p : Port) (s : State) : State :=
  portNotice p (s.updPort p fun q =>
    { q with mode := .acquiring, aligned := false, received := [], goodRun := 0 })

/-- R7: the silent count of a LOCKED port has reached 8. -/
def silenceTimeout (p : Port) (s : State) : State :=
  if Config.lossRun ≤ s.ports[p].silent then lockLost p s else s

/-- R111: the TALLYs of one panel's positions whose last tally is not IDLE. -/
def resendTallies (p : PanelIndex) (s : State) : State :=
  ((List.finRange 32).filter fun n => lastTally s p n != .idle).foldl
    (fun s n => sendTally p n (lastTally s p n) s) s

/-- R111, R113: what a port that enters LOCKED sends to its panels, in ascending panel index. -/
def greetPanels (q : Port) (s : State) : State :=
  ((List.finRange 64).filter fun p => s.live.panels[p].inUse && portOf s.live.panels[p].port == some q).foldl
    (fun s p => listenFor p (resendTallies p s)) s

/-- R4, R10: the port enters LOCKED. -/
def enterLocked (p : Port) (s : State) : State :=
  greetPanels p (portNotice p (s.updPort p fun q =>
    { q with
      mode := .locked, badRun := 0, silent := 0, slip := [], primed := false, lastRead := silence
      assembly := none }))

/-- SILENCE_TIMEOUT (R7, R8, R18). -/
def execSilenceTimeout (p : Port) (s : State) : Host.Outcome State Fault Refusal :=
  .next (silenceTimeout p s)

end Sys2Proof.Machine
end

