-- ==== Sys2Proof/Machine/Mix.lean ====
section
/-! DEFINITION. The Mix Engine: sources, targets, slew, the sample arithmetic and the reconciliation of
slots at a take (chapter 5). -/

namespace Sys2Proof.Machine

/-! ### Sources (R79, R80) -/

/-- The port of a source, floor(s / 16). -/
def portOfSource (x : Source) : Port := ⟨x.val / 16, by omega⟩

/-- The channel of a source on its port. -/
def channelOfSource (x : Source) : Fin 16 := ⟨x.val % 16, by omega⟩

/-- R80: the source is a contributor's voice and the context is not ACTIVE or LINECHECK. -/
def voiceSilenced (s : State) (x : Source) : Bool :=
  match contributorOfSource s x with
  | some c => !s.contexts[c].state.voiceHeard
  | none => false

/-- R79, R80: the sample of a source at this frame start. -/
def sampleOf (s : State) (x : Source) : Int :=
  let p := s.ports[portOfSource x]
  if p.mode = .locked ∧ p.primed = true ∧ voiceSilenced s x = false then
    (p.lastRead[channelOfSource x]).toInt
  else 0

/-- A term's sample; a term with source none adds 0 (R93). -/
def termSample (s : State) (x : Option Source) : Int :=
  match x with
  | some x => sampleOf s x
  | none => 0

/-! ### Targets (section 5.2) -/

/-- R81: the destination's context. -/
def contextOf (s : State) (d : Dest) : Option Context := (contributorOfReturn s d).map fun c => s.contexts[c]

/-- R86: the destination's context is in LINECHECK. -/
def inLinecheck (s : State) (d : Dest) : Bool :=
  match contextOf s d with
  | some x => x.state == .linecheck
  | none => false

/-- The gain code that the live mix list gives for a source (R82). -/
def gainInMix (mix : List (Source × Byte)) (x : Source) : Byte :=
  ((mix.find? fun it => it.1 == x).map Prod.snd).getD 0

/-- R82: the target of a mix slot. -/
def slotTarget (s : State) (d : Dest) (sl : Slot) : Nat :=
  match sl.state, sl.source with
  | .configured, some x =>
    if inLinecheck s d then 0 else lawOf s (gainInMix s.live.destinations[d].mix x)
  | _, _ => 0

/-- R83: the target of the programme term. -/
def programmeTarget (s : State) (d : Dest) : Nat :=
  let t := lawOf s s.live.destinations[d].programmeCode
  match contextOf s d with
  | some x =>
    if x.state = .linecheck ∨ x.returnMode = .talkbackOnly ∨ x.longDelay = true then 0 else t
  | none => t

/-- R84: some lane is ACTIVE with a claim whose interrupt is set. -/
def interruptActive (a : Arbitration) : Bool :=
  (List.finRange 4).any fun l =>
    match a.lanes[l] with
    | .active c => c.interrupt
    | _ => false

/-- R84: the target of the dim. -/
def dimTarget (s : State) (d : Dest) : Nat :=
  if interruptActive s.talk.dests[d] then min (lawOf s s.live.destinations[d].dimCode) Config.unity
  else Config.unity

/-- R85: the target of a lane term. -/
def laneTarget (s : State) (d : Dest) (l : LaneNo) : Nat :=
  match s.talk.dests[d].lanes[l] with
  | .active c => if inLinecheck s d then 0 else lawOf s c.gain
  | _ => 0

/-- R86: the target of the check term. -/
def checkTarget (s : State) (d : Dest) : Nat := if inLinecheck s d then Config.unity else 0

/-- R86: the source of the check term: the contributor's in LINECHECK, else none. -/
def checkSource (s : State) (d : Dest) : Option Source :=
  match contributorOfReturn s d with
  | some c => if inLinecheck s d then sourceOf s.live.contributors[c].source else none
  | none => none

/-- R87: the target of the master. -/
def masterTarget (s : State) (d : Dest) : Nat :=
  let t := lawOf s s.talk.dests[d].master
  match contextOf s d with
  | some x => if x.state.inService then t else 0
  | none => t

/-! ### Slew and fades (R90, R91) -/

/-- R90: one slew step of an applied coefficient toward its target. -/
def slew (applied target : Nat) : Nat :=
  if applied < target then min (applied + Config.slewStep) target
  else if target < applied then max (applied - Config.slewStep) target
  else applied

/-- R90, R91: a slot's step; a FADING slot that reaches 0 becomes EMPTY. -/
def stepSlot (s : State) (d : Dest) (sl : Slot) : Slot :=
  match sl.state with
  | .empty => sl
  | .configured => { sl with applied := slew sl.applied (slotTarget s d sl) }
  | .fading =>
    let a := slew sl.applied 0
    if a = 0 then .reset else { sl with applied := a }

/-- R90, R91: a lane term's step; a RELEASING lane left at 0 is reported drained. -/
def stepLane (s : State) (d : Dest) (l : LaneNo) (t : LaneTerm) : LaneTerm :=
  let a := slew t.applied (laneTarget s d l)
  match s.talk.dests[d].lanes[l] with
  | .releasing _ => { t with applied := a, drained := t.drained || a == 0 }
  | _ => { t with applied := a }

/-- R90, R91: every applied coefficient of a destination, one step on. -/
def stepCoefficients (s : State) (d : Dest) (m : MixState) : MixState :=
  { m with
    slots := Vector.ofFn fun i => stepSlot s d m.slots[i]
    programme := slew m.programme (programmeTarget s d)
    dim := slew m.dim (dimTarget s d)
    lanes := Vector.ofFn fun l => stepLane s d l m.lanes[l]
    check := slew m.check (checkTarget s d)
    master := slew m.master (masterTarget s d) }

/-! ### The sample (section 5.4) -/

/-- R93: the programme's effective coefficient. -/
def effective (programme dim : Nat) : Nat := (programme * dim + 8192) / 16384

/-- R93: the accumulator, from the stepped coefficients. -/
def accumulate (s : State) (d : Dest) (m : MixState) : Int :=
  let slots := (m.slots.toList.map fun sl => termSample s sl.source * (sl.applied : Int)).sum
  let lanes := (m.lanes.toList.map fun t => termSample s t.source * (t.applied : Int)).sum
  slots + lanes + termSample s (checkSource s d) * (m.check : Int)
    + termSample s s.live.destinations[d].programme * (effective m.programme m.dim : Int)

/-- R94: division by 16384, rounding half away from zero. -/
def roundHalfAway (v : Int) : Int :=
  if 0 ≤ v then ((v.natAbs + 8192) / 16384 : Nat) else -((v.natAbs + 8192) / 16384 : Nat)

/-- R94: the twice-rounded value r2 of a destination. -/
def mixValue (acc : Int) (master : Nat) : Int := roundHalfAway (roundHalfAway acc * (master : Int))

/-- R95: the clamp to the sample range. -/
def clampSample (v : Int) : Int := max (-8388608) (min 8388607 v)

/-- R93 to R96: the output sample of the stepped coefficients, the clip and the peak meter. -/
def finishSample (s : State) (d : Dest) (m : MixState) : MixState :=
  let v := mixValue (accumulate s d m) m.master
  let out := clampSample v
  let clips := decide (v ≠ out)
  { m with
    output := BitVec.ofInt 24 out
    peak := max m.peak out.natAbs
    clipFlag := m.clipFlag || clips
    clipCount := if clips then bump m.clipCount else m.clipCount }

/-- R89: the work of one frame start on one destination. -/
def mixDest (s : State) (d : Dest) : MixState := finishSample s d (stepCoefficients s d s.mix[d])

/-- R95: the first clamp since the flag was cleared raises a CLIP notice. -/
def clipNotices (old new : State) : State :=
  ((List.finRange 128).filter fun d => new.mix[d].clipFlag && !old.mix[d].clipFlag).foldl
    (fun s d => raiseNotice .clip ⟨byte d.val, 0, 0⟩ s) new

/-- R89: every destination, then the CLIP notices. -/
def mixAll (s : State) : State :=
  clipNotices s { s with mix := Vector.ofFn fun d => mixDest s d }

/-! ### Reconciliation at a take (section 5.5) -/

/-- R97, step 1: a slot of the new exclude source is cut and made EMPTY. -/
def excludeSlot (exclude : Option Source) (sl : Slot) : Slot :=
  if sl.source.isSome ∧ sl.source = exclude then .reset else sl

/-- R97, steps 2 and 3: a source kept makes its slot CONFIGURED; a CONFIGURED slot of a source removed
becomes FADING, or EMPTY at once where its coefficient is 0. -/
def keepOrFade (mix : List (Source × Byte)) (sl : Slot) : Slot :=
  match sl.source with
  | none => sl
  | some x =>
    if mix.any fun it => it.1 == x then { sl with state := .configured }
    else
      match sl.state with
      | .configured => if sl.applied = 0 then .reset else { sl with state := .fading }
      | _ => sl

/-- R97, step 4: the lowest-numbered EMPTY slot. -/
def emptySlot (slots : Vector Slot 16) : Option SlotNo :=
  (List.finRange 16).find? fun i => slots[i].state == .empty

/-- R97, step 4: the FADING slot to evict: the lowest coefficient, then the lowest number. -/
def evictSlot (slots : Vector Slot 16) : Option SlotNo :=
  (List.finRange 16).foldl
    (fun best i =>
      if slots[i].state = .fading then
        match best with
        | none => some i
        | some b => if slots[i].applied < slots[b].applied then some i else some b
      else best)
    none

/-- R97, step 4: a new source takes a slot, at applied coefficient 0. -/
def addSource (slots : Vector Slot 16) (x : Source) : Vector Slot 16 :=
  match (emptySlot slots).or (evictSlot slots) with
  | some i => slots.set i { state := .configured, source := some x, applied := 0 }
  | none => slots

/-- Does some slot hold source x? -/
def holdsSource (slots : Vector Slot 16) (x : Source) : Bool := slots.toList.any fun sl => sl.source == some x

/-- R97: the four steps. -/
def reconcile (exclude : Option Source) (mix : List (Source × Byte)) (slots : Vector Slot 16) :
    Vector Slot 16 :=
  let kept : Vector Slot 16 := Vector.ofFn fun i => keepOrFade mix (excludeSlot exclude slots[i])
  (mix.filter fun it => !holdsSource kept it.1).foldl (fun sl it => addSource sl it.1) kept

/-- R98: a lane term of the new exclude source is cut to 0. -/
def cutTerm (exclude : Option Source) (t : LaneTerm) : LaneTerm :=
  if t.source.isSome ∧ t.source = exclude then { t with applied := 0 } else t

/-- R97, R98: the effects of a take on a changed DESTINATION entry. -/
def MixState.taken (m : MixState) (old new : DestinationEntry) : MixState :=
  { m with
    slots := reconcile new.exclude new.mix m.slots
    programme := if old.programme = new.programme then m.programme else 0
    lanes := Vector.ofFn fun l => cutTerm new.exclude m.lanes[l]
    peak := 0 }

end Sys2Proof.Machine
end

