-- ==== Sys2Proof/Machine/Take.lean ====
section
/-! DEFINITION. The validation, the execution and the effects of a take (chapter 4). -/

namespace Sys2Proof.Machine

/-! ### Validation (section 4.5) -/

/-- The number, from n, of the first check that fails. -/
def firstTrue : List Bool → Nat → Option Nat
  | [], _ => none
  | b :: rest, n => if b then some n else firstTrue rest (n + 1)

/-- R70: the first failure of one table: its code, the index and the check number. -/
def failureIn (t : TableId) (n : Nat) (checks : Fin n → List Bool) : Option (List Byte) :=
  (List.finRange n).findSome? fun i => (firstTrue (checks i) 1).map fun k => [t.code, byte i.val, byte k]

/-- R70: some entry of lower index, in use, shares the value. -/
def sharedBelow {n : Nat} (i : Fin n) (inUse same : Fin n → Bool) : Bool :=
  (List.finRange n).any fun j => decide (j.val < i.val) && inUse j && same j

/-- R71. -/
def deviceChecks (e : DeviceEntry) : List Bool :=
  [e.candidates.any fun p => !e.enabled[p],
   e.trunk.any fun p => !e.enabled[p],
   e.noticePort.any fun p => !e.enabled[p]]

/-- R71. -/
def destinationChecks (e : DestinationEntry) : List Bool :=
  [e.programme.isSome && e.programme == e.exclude,
   e.mix.any fun it => some it.1 == e.exclude]

/-- R72. -/
def panelChecks (unit : Byte) (t : Tables) (i : PanelIndex) : List Bool :=
  let e := t.panels[i]
  if e.inUse then
    [!isAddress e.address || e.address == unit,
     sharedBelow i (fun j => t.panels[j].inUse) (fun j => t.panels[j].address == e.address),
     sharedBelow i (fun j => t.panels[j].inUse) (fun j => t.panels[j].mic == e.mic)]
  else []

/-- R72, check 1: the panel index names a panel in use. -/
def panelInUse (t : Tables) (b : Byte) : Bool :=
  match panelOf b with
  | some p => t.panels[p].inUse
  | none => false

/-- R72, check 3: the destination named REFUSEs talk. -/
def refuses (t : Tables) (b : Byte) : Bool :=
  match destOf b with
  | some d => t.destinations[d].refuse
  | none => false

/-- R72. -/
def keyChecks (t : Tables) (i : KeyIndex) : List Bool :=
  let e := t.keys[i]
  if e.inUse then
    [!panelInUse t e.panel,
     sharedBelow i (fun j => t.keys[j].inUse)
       (fun j => t.keys[j].panel == e.panel && t.keys[j].number == e.number),
     e.kind == 0 && refuses t e.target]
  else []

/-- R73, check 4: the return destination excludes the contributor's source. -/
def excludesVoice (t : Tables) (e : ContributorEntry) : Bool :=
  match destOf e.ret, sourceOf e.source with
  | some d, some x => t.destinations[d].exclude == some x
  | _, _ => false

/-- R73. -/
def contributorChecks (t : Tables) (i : ContribIndex) : List Bool :=
  let e := t.contributors[i]
  if e.inUse then
    let below := sharedBelow i fun j => t.contributors[j].inUse
    [below (fun j => t.contributors[j].port == e.port && t.contributors[j].gateway == e.gateway),
     below (fun j => t.contributors[j].ret == e.ret),
     below (fun j => t.contributors[j].source == e.source),
     !excludesVoice t e]
  else []

/-- R70: the data of INVALID, for the first check that fails. -/
def validate (unit : Byte) (t : Tables) : Option (List Byte) :=
  (failureIn .device 1 fun _ => deviceChecks t.device).or
  ((failureIn .destination 128 fun i => destinationChecks t.destinations[i]).or
  ((failureIn .panel 64 fun i => panelChecks unit t i).or
  ((failureIn .key 256 fun i => keyChecks t i).or
   (failureIn .contributor 8 fun i => contributorChecks t i))))

/-! ### Changed entries (R74) -/

def panelChanged (old new : Tables) (i : PanelIndex) : Bool :=
  (old.panels[i].inUse || new.panels[i].inUse) && old.panels[i] != new.panels[i]

def keyChanged (old new : Tables) (i : KeyIndex) : Bool :=
  (old.keys[i].inUse || new.keys[i].inUse) && old.keys[i] != new.keys[i]

def destinationChanged (old new : Tables) (i : Dest) : Bool := old.destinations[i] != new.destinations[i]

def groupChanged (old new : Tables) (i : Fin 16) : Bool := old.groups[i] != new.groups[i]

/-- R74: the fields of a CONTRIBUTOR entry that a link change looks at. -/
def ContributorEntry.link (e : ContributorEntry) : ContributorEntry :=
  { e with wakeOnTalk := 0, wakeOnCall := 0, callPanel := 0, callKey := 0 }

/-- R74: a link change. -/
def linkChanged (old new : Tables) (i : ContribIndex) : Bool :=
  (old.contributors[i].inUse || new.contributors[i].inUse) &&
    old.contributors[i].link != new.contributors[i].link

/-! ### Effects on the ports and the clock (R75) -/

/-- R9A, R75: the ports whose enable flag has changed. -/
def takePorts (old new : Tables) (s : State) : State :=
  (List.finRange 8).foldl
    (fun s p =>
      match old.device.enabled[p], new.device.enabled[p] with
      | true, false => disablePort p s
      | false, true => enablePort p s
      | _, _ => s) s

/-- R19: the candidates that stand before the reference in the new list and did not in the old. -/
def movedBefore (old new : Tables) (reference : Option Port) : List Port :=
  match reference with
  | some p =>
    (before p new.device.candidates).filter fun q => !(before p old.device.candidates).contains q
  | none => []

/-- R17, R18, R75: the clock reads the new candidate list. -/
def takeClock (old new : Tables) (s : State) : State :=
  let s := s.updClock fun c => { c with revertHold := c.revertHold ++ movedBefore old new c.reference }
  if new.device.candidates = [] then
    if s.clock.mode = .free then s else clockNotice (s.updClock fun c => c.onTimer .free)
  else
    match s.clock.reference with
    | some p =>
      if new.device.candidates.contains p && new.device.enabled[p] then s else leaveReference s
    | none => s

/-! ### Effects on the contributors (R78, R154) -/

/-- R78, R154: the effects of one changed CONTRIBUTOR entry. The tallies are recomputed once, when the whole take
is done (R117). -/
def takeContributor (old new : Tables) (c : ContribIndex) (s : State) : State :=
  let s :=
    if linkChanged old new c = true ∧ s.contexts[c].state ≠ .down then
      enterState c .down (closeContext c (sendPageFor old.contributors[c] closePage s))
    else s
  if old.contributors[c].inUse && !new.contributors[c].inUse then clearCalling c s else s

def takeContributors (old new : Tables) (s : State) : State :=
  (List.finRange 8).foldl (fun s c => takeContributor old new c s) s

/-! ### Effects on talk (R76, R117, R132, R133) -/

/-- R76: the effects of one changed DESTINATION entry. -/
def takeDestination (old new : Tables) (d : Dest) (s : State) : State :=
  let o := old.destinations[d]
  let e := new.destinations[d]
  let s :=
    match e.exclude with
    | some x => excludeTalker d x s
    | none => s
  let s := if !o.refuse && e.refuse then refuseTalk d s else s
  if o.defaultMaster = e.defaultMaster then s else setMaster d e.defaultMaster s

/-- R76: the KEY entry, or the PANEL entry of the key's panel, is changed. -/
def keyTouched (old new : Tables) (k : KeyIndex) : Bool :=
  keyChanged old new k ||
    match panelOf old.keys[k].panel with
    | some p => panelChanged old new p
    | none => false

/-- R76: the key's old live target is a group that is changed. -/
def groupTouched (old new : Tables) (k : KeyIndex) : Bool :=
  old.keys[k].kind == 1 &&
    match groupOf old.keys[k].target with
    | some g => groupChanged old new g
    | none => false

/-- R76, R109: what the take leaves of a key: its talk record is freed where the take touches it. -/
def KeyRun.taken (old new : Tables) (k : KeyIndex) (r : KeyRun) : KeyRun :=
  if keyTouched old new k then { pos := .up, refused := false, talk := none }
  else if groupTouched old new k && r.talk.isSome then { r with pos := spent r.pos, talk := none }
  else r

/-- R76: the talk records of the touched keys are freed, before anything is told by the new tables (R117). -/
def freeTalks (old new : Tables) (s : State) : State :=
  s.updTalk fun t => { t with keys := Vector.ofFn fun k => KeyRun.taken old new k t.keys[k] }

/-- R76, R108: the claims that the touched keys' talks reference, by ascending KEY entry, in list order. -/
def freedClaims (old new : Tables) (s : State) : List (KeyIndex × ClaimId) :=
  ((List.finRange 256).filter fun k => keyTouched old new k || groupTouched old new k).flatMap fun k =>
    match s.talk.keys[k].talk with
    | some t => t.claims.map fun id => (k, id)
    | none => []

/-- R76, R132: the DESTINATION entries first, then the claims of the freed talks (log 9). -/
def takeTalk (old new : Tables) (freed : List (KeyIndex × ClaimId)) (s : State) : State :=
  freed.foldl (fun s f => removeRef f.1 f.2 s)
    (((List.finRange 128).filter (destinationChanged old new)).foldl
      (fun s d => takeDestination old new d s) s)

/-! ### Effects on the mix (R77, R97, R98) -/

/-- R97, R98: the mix of one destination at a take. -/
def takeMixDest (old new : Tables) (s : State) (d : Dest) : MixState :=
  if destinationChanged old new d then s.mix[d].taken old.destinations[d] new.destinations[d]
  else s.mix[d]

def takeMix (old new : Tables) (s : State) : State :=
  { s with mix := Vector.ofFn fun d => takeMixDest old new s d }

/-! ### What the panels are told (R113, R117) -/

/-- R113: a LISTEN for each panel that the take puts into use or changes. -/
def takeListens (old new : Tables) (s : State) : State :=
  ((List.finRange 64).filter fun p => panelChanged old new p && new.panels[p].inUse).foldl
    (fun s p => listenFor p s) s

/-- R117, R113. -/
def takePanels (old new : Tables) (s : State) : State :=
  takeListens old new (refreshTalkerLists (refreshAllTallies s))

/-! ### Execution (R67) -/

/-- R67: the copy, the generation, the pending take. -/
def TableStore.taken (t : TableStore) : TableStore :=
  { t with live := t.staged, generation := t.generation + 1, take := none }

/-- R67: the REPLY that an immediate take owes. -/
def takeReply (pending : Option PendingTake) (s : State) : State :=
  match pending with
  | some (.immediate port sender name tag) =>
    replyTo port sender name tag rOk (be16 s.store.generation) s
  | _ => s

/-- A TAKE notice (Table 10-1): 0 EXECUTED, 1 CANCELLED, and the generation. -/
def takeNotice (outcome : Byte) (s : State) : State :=
  let g := s.store.generation
  raiseNotice .take ⟨outcome, g.extractLsb' 8 8, g.extractLsb' 0 8⟩ s

/-- R163: the take changes the notice port or the notice address, and the new routing is configured. -/
def routingChanged (old new : Tables) : Bool :=
  (old.device.noticePort != new.device.noticePort || old.device.noticeAddress != new.device.noticeAddress)
    && new.device.noticePort.isSome && new.device.noticeAddress.isSome

/-- R67, R74 to R78: the pending take executes, at the frame start that `s` numbers (log 9). -/
def takeExecute (s : State) : State :=
  let old := s.store.live
  let new := s.store.staged
  let owed := s.store.take
  let freed := freedClaims old new s
  let s := freeTalks old new (s.updStore TableStore.taken)
  let s := takeTalk old new freed (takeContributors old new s)
  let s := takeClock old new (takePorts old new s)
  let s := takePanels old new (takeMix old new s)
  let s := takeNotice 0 (takeReply owed s)
  if routingChanged old new then deliverAll s else s

/-- R66: does the pending take execute at frame start n? -/
def takeDue (t : Option PendingTake) (n : FrameNo) : Bool :=
  match t with
  | some (.immediate _ _ _ _) => true
  | some (.scheduled f late) => late || f == n
  | none => false

/-! ### Requests on takes (R64, R65, R68, R69) -/

/-- R64: the at-frame of a pending take in six bytes, zero for an immediate one. -/
def atFrameBytes (t : Option PendingTake) : List Byte :=
  match t with
  | some (.scheduled f _) => be48 f
  | _ => be48 0

/-- R64: the at-frame exceeds current by more than the take horizon. -/
def beyondHorizon (f current : FrameNo) : Bool := decide (current.toNat + Config.takeHorizon < f.toNat)

/-- R64, steps 2 to 6. `atFrame` is none for an immediate take. -/
def takeRequest (e : Env) (tag : Byte) (expected : BitVec 16) (atFrame : Option FrameNo) (s : State) :
    State :=
  let g := s.store.generation
  if expected ≠ g then reply e nTake tag rGeneration (be16 g) s
  else if s.store.take.isSome then reply e nTake tag rTakePending (atFrameBytes s.store.take) s
  else if atFrame.any fun f => beyondHorizon f s.now then reply e nTake tag rOutOfRange (be48 s.now) s
  else
    match validate s.unit s.store.staged with
    | some data => reply e nTake tag rInvalid data s
    | none =>
      match atFrame with
      | none => s.updStore fun t => { t with take := some (.immediate e.port e.sender nTake tag) }
      | some f =>
        reply e nTake tag rOk (be48 f ++ be16 (g + 1))
          (s.updStore fun t => { t with take := some (.scheduled f (decide (f.toNat ≤ s.now.toNat))) })

/-- R64: TAKE. -/
def serveTake (e : Env) (tag : Byte) (fields : List Byte) (s : State) : State :=
  request e nTake tag fields (fun s =>
    match fields with
    | [hi, lo] => takeRequest e tag (of16 hi lo) none s
    | [hi, lo, a, b, c, d, f, g] => takeRequest e tag (of16 hi lo) (some (of48 a b c d f g)) s
    | _ => reply e nTake tag rBadLength [] s) s

/-- R68: the answer that a cancelled immediate take owes. -/
def cancelledReply (pending : Option PendingTake) (s : State) : State :=
  match pending with
  | some (.immediate port sender name tag) =>
    replyTo port sender name tag rIgnored (be16 s.store.generation) s
  | _ => s

/-- R68: CANCEL. The IGNORED of an immediate take comes before the OK; the TAKE notice is raised last (log 8). -/
def serveCancel (e : Env) (tag : Byte) (fields : List Byte) (s : State) : State :=
  request e nCancel tag fields (fun s =>
    match fields with
    | [] =>
      match s.store.take with
      | none => reply e nCancel tag rNoTake [] s
      | some t =>
        takeNotice 1
          (reply e nCancel tag rOk (atFrameBytes (some t))
            (cancelledReply (some t) (s.updStore fun st => { st with take := none })))
    | _ => reply e nCancel tag rBadLength [] s) s

/-- R69: REVERT. -/
def serveRevert (e : Env) (tag : Byte) (fields : List Byte) (s : State) : State :=
  request e nRevert tag fields (fun s =>
    match fields with
    | [] =>
      if s.store.take.isSome then reply e nRevert tag rTakePending (atFrameBytes s.store.take) s
      else
        reply e nRevert tag rOk (be16 s.store.generation)
          (s.updStore fun t => { t with staged := t.live })
    | _ => reply e nRevert tag rBadLength [] s) s

/-! ### The meanings -/

/-- TAKE (R64, R65). -/
def execTake (e : Env) (tag : Byte) (fields : List Byte) (s : State) :
    Host.Outcome State Fault Refusal := .next (serveTake e tag fields s)

/-- The last frame start's number is set. -/
def State.withFrame (s : State) (n : FrameNo) : State := s.updClock fun c => { c with frame := n }

/-- CANCEL (R68). -/
def execCancel (e : Env) (tag : Byte) (fields : List Byte) (s : State) :
    Host.Outcome State Fault Refusal := .next (serveCancel e tag fields s)

/-- REVERT (R69). -/
def execRevert (e : Env) (tag : Byte) (fields : List Byte) (s : State) :
    Host.Outcome State Fault Refusal := .next (serveRevert e tag fields s)

end Sys2Proof.Machine
end

