-- ==== Sys2Proof/Machine/Frame.lean ====
section
/-! DEFINITION. The frame start (section 1.4), what is taken when it falls due, and the passing of time
(log 2, log 4). -/

namespace Sys2Proof.Machine

/-! ### The work of a port at a frame start -/

/-- R7: the silent count. -/
def PortState.countSilence (q : PortState) : PortState :=
  if q.mode = .locked ∧ q.arrived = false then { q with silent := min (q.silent + 1) Config.lossRun } else q

/-- R10: a primed LOCKED port reads one frame. -/
def PortState.readSlip (q : PortState) : PortState :=
  if q.mode = .locked ∧ q.primed = true then
    match q.slip with
    | head :: rest => { q with lastRead := head, slip := rest }
    | [] => { q with slipRepeats := bump q.slipRepeats }
  else q

/-- R16: the qualification run. -/
def PortState.countRun (q : PortState) : PortState :=
  { q with
    qualification := if q.mode = .locked then min (q.qualification + 1) Config.settledRun else 0
    arrived := false }

/-- R7, R10, R16. -/
def PortState.read (q : PortState) : PortState := q.countSilence.readSlip.countRun

/-! ### Transmission (R1, R12) -/

/-- Bytes 50..53 of a frame: the lane marker and the lane data. -/
structure LanePart where
  marker : Byte
  data   : List Byte
  deriving DecidableEq, Repr

/-- R12: IDLE. That its data bytes are zero is R12's for a port in ACQUIRING, the model's choice for a LOCKED one
(log 31). -/
def idleLane : LanePart := { marker := 0x00, data := [0, 0, 0] }

/-- R8: ABORT, with no lane data. That the three bytes are sent as zero is the model's choice (log 31). -/
def abortLane : LanePart := { marker := 0xF0, data := [0, 0, 0] }

/-- R12: the next piece of a message: its marker with the count, its bytes padded with zero. -/
def piece (e : EgressEntry) : LanePart :=
  let bytes := (e.bytes.drop e.sent).take 3
  let marker :=
    if e.sent = 0 then 0x40 + byte bytes.length
    else if e.bytes.length ≤ e.sent + 3 then 0xC0 + byte bytes.length
    else 0x80 + byte bytes.length
  { marker := marker, data := bytes ++ List.replicate (3 - bytes.length) 0 }

/-- R12: the queue after its head's piece has been sent; a message leaves with its END frame. -/
def advanceQueue : List EgressEntry → List EgressEntry
  | [] => []
  | e :: rest =>
    if e.sent ≠ 0 ∧ e.bytes.length ≤ e.sent + 3 then rest else { e with sent := e.sent + 3 } :: rest

/-- R8, R12: the lane part of a port's next frame. -/
def PortState.lanePart (q : PortState) : LanePart :=
  if q.abortOwed then abortLane
  else if q.mode = .locked then
    match q.egress with
    | e :: _ => piece e
    | [] => idleLane
  else idleLane

/-- The port's egress queue after its frame. -/
def PortState.sentEgress (q : PortState) : List EgressEntry :=
  if q.abortOwed = false ∧ q.mode = .locked then advanceQueue q.egress else q.egress

/-- Table 1-1: the 55 bytes of a frame. -/
def frameBytes (sequence : Byte) (audio : Audio) (lane : LanePart) : List Byte :=
  let body := sequence :: (audio.toList.flatMap be24 ++ lane.marker :: lane.data)
  0x5C :: (body ++ [crc body])

/-- R1: the port transmits its frame, unless it is DISABLED. -/
def PortState.transmit (q : PortState) (audio : Audio) : PortState :=
  if q.mode = .disabled then { q with transmitted := none }
  else
    { q with
      transmitted := some (frameBytes q.sequence audio q.lanePart)
      egress := q.sentEgress, abortOwed := false, sequence := q.sequence + 1 }

/-- The samples of a port's 16 destinations. -/
def outputsOf (s : State) (p : Port) : Audio :=
  Vector.ofFn fun c : Fin 16 => (s.mix[p.val * 16 + c.val]'(by omega)).output

/-! ### The frame start (R13) -/

/-- R13: the frame counter, and the time since the last frame start. -/
def Clock.startFrame (c : Clock) : Clock := { c with frame := c.frame + 1, sinceStart := 0 }

/-- R17, R19: the frame start's search or check becomes owed. -/
def Clock.oweCheck (c : Clock) : Clock := { c with checkOwed := true }

def readPorts (s : State) : State := { s with ports := s.ports.map PortState.read }

def transmitPorts (s : State) : State :=
  { s with ports := Vector.ofFn fun p => s.ports[p].transmit (outputsOf s p) }

/-- R66: the pending take executes where it is due at this frame start. -/
def takeIfDue (s : State) : State := if takeDue s.store.take s.now then takeExecute s else s

/-- R13, R66, R89, R1: a frame start: the counter, a due take, the ports' reads, the mix, the
transmission. -/
def frameStart (s : State) : State :=
  (transmitPorts (mixAll (readPorts (takeIfDue (s.updClock Clock.startFrame))))).updClock Clock.oweCheck

/-! ### What has fallen due (log 4) -/

/-- R7: the ports whose silent count has reached 8, in ascending number (log 4). -/
def settleSilence (s : State) : State :=
  ((List.finRange 8).filter fun p => decide (Config.lossRun ≤ s.ports[p].silent)).foldl
    (fun s p => silenceTimeout p s) s

/-- The lanes of a destination whose drained report waits. -/
def drainedLanes (s : State) (d : Dest) : List (Dest × LaneNo) :=
  ((List.finRange 4).filter fun l => s.mix[d].lanes[l].drained).map fun l => (d, l)

/-- R91, R128: the lane drained reports that wait are answered, by ascending destination, then lane (log 4). -/
def settleDrained (s : State) : State :=
  ((List.finRange 128).flatMap (drainedLanes s)).foldl
    (fun s r => refreshTalk (answerDrained r.1 r.2 s)) s

/-- R107: the talks whose time limit is due, by ascending KEY entry (log 4). -/
def settleKeys (s : State) : State :=
  ((List.finRange 256).filter fun k => autoDue k s || latchDue k s).foldl
    (fun s k => latchTimeout k (autoThreshold k s)) s

/-- R142, R144, R145, R148: the contexts' timers that are due, by ascending contributor (log 4). -/
def settleContexts (s : State) : State :=
  ((List.finRange 8).filter fun c => s.contexts[c].state != .down).foldl
    (fun s c => closeTimeout c (wakeExpiry c (echoDue c (negotiationTimeout c s)))) s

/-- R17, R19: the search or check that the last frame start owes. -/
def settleReference (s : State) : State :=
  if s.clock.checkOwed then
    (if s.clock.mode = .locked then revertReference s else selectReference s).updClock Clock.checked
  else s

/-- Everything that has fallen due is taken. -/
def settle (s : State) : State :=
  settleReference (closeTraining (settleContexts (settleKeys (settleDrained (settleSilence s)))))

/-! ### Frame starts of the clock's own (R14, R15) -/

/-- R14: n ticks bring the timer's frame start. -/
def timerStart (n : Nat) (s : State) : State :=
  frameStart (s.updClock fun c =>
    let c := c.pass n
    { c with phase := c.phase - c.period })

/-- R15: the fourth fill takes the clock to HOLDOVER and zeroes the old reference's run. A take of this frame start that
has moved the clock to another reference, its fill count 0, leaves no fourth fill, and a reference that falls silent at
this very frame start (R7) loses its lock after the clock has entered HOLDOVER, and the check of R19 that this frame
start owes is not made (the model's choices, log 29). -/
def lastFill (s : State) : State :=
  match s.clock.mode, s.clock.reference with
  | .locked, some p =>
    if 4 ≤ s.clock.fillCount then
      (enterHoldover (s.updPort p fun q => { q with qualification := 0 })).updClock Clock.checked
    else s
  | _, _ => s

/-- R15: n ticks bring the fill. The fill is counted before a take that is due at it is executed (the model's choice,
log 29). -/
def fillStart (n : Nat) (s : State) : State :=
  lastFill (frameStart (s.updClock fun c => { c.pass n with fillCount := c.fillCount + 1 }))

/-- R14: a timer frame start is due. -/
def timerDue (c : Clock) : Bool := c.mode != .locked && decide (c.period ≤ c.phase)

/-- R15: a fill is due: 1.5 trained periods, 3P/32 ticks, have passed. -/
def fillDue (c : Clock) : Bool := c.mode == .locked && decide (3 * c.period ≤ 32 * c.sinceStart)

/-- A frame start of the clock's own that is due is made. -/
def dueStart (s : State) : State :=
  if timerDue s.clock then timerStart 0 s
  else if fillDue s.clock then fillStart 0 s
  else s

/-- One oscillator tick: what has fallen due is taken first. -/
def tick (s : State) : State := (settle (dueStart (settle s))).updClock fun c => c.pass 1

/-- n oscillator ticks. -/
def ticks : Nat → State → State
  | 0, s => s
  | n + 1, s => ticks n (tick s)

/-- What the part does while no command waits: one oscillator tick passes (log 2). -/
def idle (s : State) : State := tick s

/-! ### The meanings -/

/-- TAKE_EXECUTE (R66, R67): the pending take executes with the number of the coming frame start, which
follows, once what the last frame start brought due is taken (log 4); no effect where no take is due at it
(log 15). -/
def execTakeExecute (s : State) : Host.Outcome State Fault Refusal :=
  .next (if takeDue s.store.take (s.now + 1) then
    (takeExecute ((settle s).withFrame (s.now + 1))).withFrame s.now else s)

/-- TIMER_FRAME_START (R14): time passes to the timer's next frame start, which is made; no effect in
LOCKED (log 14). -/
def execTimerFrameStart (s : State) : Host.Outcome State Fault Refusal :=
  let s' := settle s
  .next (if s'.clock.mode = .locked then s else timerStart s'.clock.ticksToTimer s')

/-- FILL (R15): time passes to 1.5 trained periods after the last frame start, and the fill is made;
no effect outside LOCKED (log 14). -/
def execFill (s : State) : Host.Outcome State Fault Refusal :=
  let s' := settle s
  .next (if s'.clock.mode = .locked then fillStart s'.clock.ticksToFill s' else s)

end Sys2Proof.Machine
end

