-- ==== Sys2Proof/Machine/Requests.lean ====
section
/-! DEFINITION. The MASK, STATUS, COUNTERS and RESET requests (sections 10.4 to 10.7), and the resets
of the pins (R11, R26, R62). -/

namespace Sys2Proof.Machine

/-- R164 to R167: the data of BAD_FIELD: the field number and the item number 0 (log 10). -/
def badField (e : Env) (name tag : Byte) (field : Nat) (s : State) : State :=
  reply e name tag rBadField [byte field, 0] s

/-! ### MASK (R164) -/

/-- R164: the first byte above 2: of several, the one of the lowest class code (log 28). -/
def maskFault (bytes : List Byte) : Option Nat := bytes.findIdx? fun b => decide (2 < b.toNat)

/-- R164: a mask changed as its byte says. -/
def maskAfter (b : Byte) (mask : Bool) : Bool := if b = 1 then true else if b = 2 then false else mask

/-- R164: every mask changed, before any delivery. -/
def setMasks (bytes : List Byte) (s : State) : State :=
  { s with
    notices := Vector.ofFn fun k : Fin 7 =>
      { s.notices[k] with mask := maskAfter (bytes.getD k.val 0) s.notices[k].mask } }

/-- R164: the classes that the request changed from set to clear are delivered, in class order. -/
def deliverUnmasked (old : State) (s : State) : State :=
  (List.finRange 7).foldl
    (fun s k => if old.notices[k].mask && !s.notices[k].mask then deliver (.ofCode k) s else s) s

def maskBytes (s : State) : List Byte := s.notices.toList.map fun n => yesNo n.mask

def pendingBytes (s : State) : List Byte := s.notices.toList.map fun n => yesNo n.pending

/-- R164: MASK. -/
def serveMask (e : Env) (tag : Byte) (fields : List Byte) (s : State) : State :=
  request e nMask tag fields (fun s =>
    if fields.length = 7 then
      match maskFault fields with
      | some k => badField e nMask tag (k + 1) s
      | none =>
        let s' := deliverUnmasked s (setMasks fields s)
        reply e nMask tag rOk (maskBytes s' ++ pendingBytes s') s'
    else reply e nMask tag rBadLength [] s) s

/-! ### STATUS (R165) -/

/-- R165: the checks of STATUS; the row's selector stands (log 14). -/
def statusRequest (e : Env) (tag : Byte) (fields : List Byte) (selector : Byte) (count : Nat)
    (serve : Byte → State → State) (s : State) : State :=
  request e nStatus tag fields (fun s =>
    match fields with
    | [sel, index] =>
      if 2 < sel.toNat then badField e nStatus tag 1 s
      else if count ≤ index.toNat then reply e nStatus tag rOutOfRange [selector, index] s
      else serve index s
    | _ => reply e nStatus tag rBadLength [] s) s

/-- Table 10-2: 0 none, 1 immediate, 2 scheduled. -/
def takeCode (t : Option PendingTake) : Byte :=
  match t with
  | none => 0
  | some (.immediate _ _ _ _) => 1
  | some (.scheduled _ _) => 2

/-- The at-frame in six bytes, zero unless a scheduled take is pending (Table 10-2). -/
def statusAtFrame (t : Option PendingTake) : List Byte :=
  match t with
  | some (.scheduled f _) => be48 f
  | _ => be48 0

/-- Table 10-2, DEVICE: 39 bytes. -/
def deviceStatus (s : State) : List Byte :=
  [s.clock.mode.code, optByte s.clock.reference] ++ (s.ports.toList.map fun q => q.mode.code)
    ++ be16 s.store.generation ++ takeCode s.store.take :: statusAtFrame s.store.take
    ++ maskBytes s ++ pendingBytes s ++ be48 s.now

/-- R165, R163: STATUS with the DEVICE selector. -/
def serveStatusDevice (e : Env) (tag : Byte) (fields : List Byte) (s : State) : State :=
  statusRequest e tag fields 0 1 (fun index s =>
    deliverAll (reply e nStatus tag rOk ([0, index] ++ deviceStatus s) s)) s

/-- R100: the occupied lanes of a destination. -/
def occupiedLanes (a : Arbitration) : Nat := a.lanes.toList.countP fun l => l.occupant.isSome

/-- Table 10-2, DESTINATION: 9 bytes. -/
def destinationStatus (s : State) (d : Dest) : List Byte :=
  let m := s.mix[d]
  let a := s.talk.dests[d]
  be24 (BitVec.ofNat 24 m.peak) ++ [yesNo m.clipFlag, a.master] ++ be16 (BitVec.ofNat 16 m.dim)
    ++ [byte (occupiedLanes a), byte a.queue.length]

/-- R100: the peak meter and the clip flag are cleared. -/
def clearMeter (d : Dest) (s : State) : State := s.updMix d fun m => { m with peak := 0, clipFlag := false }

/-- R100, R165: STATUS with the DESTINATION selector. -/
def serveStatusDestination (e : Env) (tag : Byte) (fields : List Byte) (s : State) : State :=
  statusRequest e tag fields 1 128 (fun index s =>
    match destOf index with
    | some d => reply e nStatus tag rOk ([1, index] ++ destinationStatus s d) (clearMeter d s)
    | none => reply e nStatus tag rOutOfRange [1, index] s) s

/-- Table 10-2, CONTRIBUTOR: 16 bytes. -/
def contributorStatus (x : Context) : List Byte :=
  [x.state.code, yesNo (linkFlag x)] ++ abilityBytes x.resolved ++ [x.returnMode.code]
    ++ be16 (BitVec.ofNat 16 x.tolerance) ++ be24 (BitVec.ofNat 24 (x.average.getD 0))
    ++ yesNo x.longDelay :: be16 x.ident ++ [yesNo x.callPending]

/-- R153: the loss mark is cleared. -/
def clearLossMark (c : ContribIndex) (s : State) : State := s.updContext c fun x => { x with lossMark := false }

/-- R153, R165: STATUS with the CONTRIBUTOR selector. -/
def serveStatusContributor (e : Env) (tag : Byte) (fields : List Byte) (s : State) : State :=
  statusRequest e tag fields 2 8 (fun index s =>
    match contributorOf index with
    | some c => reply e nStatus tag rOk ([2, index] ++ contributorStatus s.contexts[c]) (clearLossMark c s)
    | none => reply e nStatus tag rOutOfRange [2, index] s) s

/-! ### COUNTERS (R166) -/

/-- R166: the checks of COUNTERS, a selector above 3 before a clear byte above 1, and that before an index out of range
(log 28); the row's selector stands (log 14). `values` and `clear` get the index. -/
def countersRequest (e : Env) (tag : Byte) (fields : List Byte) (selector : Byte) (count : Nat)
    (values : Byte → State → List Counter) (clear : Byte → State → State) (s : State) : State :=
  request e nCounters tag fields (fun s =>
    match fields with
    | [sel, index, clr] =>
      if 3 < sel.toNat then badField e nCounters tag 1 s
      else if 1 < clr.toNat then badField e nCounters tag 3 s
      else if count ≤ index.toNat then reply e nCounters tag rOutOfRange [selector, index, clr] s
      else
        reply e nCounters tag rOk ([selector, index] ++ (values index s).flatMap be16)
          (if clr = 1 then clear index s else s)
    | _ => reply e nCounters tag rBadLength [] s) s

/-- Table 10-3, port. -/
def PortState.counters (q : PortState) : List Counter :=
  [q.crcErrors, q.sequenceErrors, q.slipRepeats, q.slipDiscards, q.lockLosses, q.fragments, q.laneErrors,
   q.egressDrops]

def PortState.clearCounters (q : PortState) : PortState :=
  { q with
    crcErrors := 0, sequenceErrors := 0, slipRepeats := 0, slipDiscards := 0, lockLosses := 0
    fragments := 0, laneErrors := 0, egressDrops := 0 }

/-- R166, port. -/
def serveCountersPort (e : Env) (tag : Byte) (fields : List Byte) (s : State) : State :=
  countersRequest e tag fields 0 8
    (fun i s =>
      match portOf i with
      | some p => s.ports[p].counters
      | none => [])
    (fun i s =>
      match portOf i with
      | some p => s.updPort p PortState.clearCounters
      | none => s) s

/-- Table 10-3, device. -/
def deviceCounters (s : State) : List Counter :=
  let c := s.counters
  [s.clock.trainingRejections, c.addressErrors, c.unknownPanels, c.unknownGateways, c.unhandledKinds,
   c.malformedRequests, c.forwardDrops, c.malformedPanel, c.unknownKeys]

/-- R166, device. -/
def serveCountersDevice (e : Env) (tag : Byte) (fields : List Byte) (s : State) : State :=
  countersRequest e tag fields 1 1 (fun _ s => deviceCounters s)
    (fun _ s =>
      (s.updCounters fun _ => DeviceCounters.zero).updClock fun c => { c with trainingRejections := 0 }) s

/-- R166, contributor. -/
def serveCountersContributor (e : Env) (tag : Byte) (fields : List Byte) (s : State) : State :=
  countersRequest e tag fields 2 8
    (fun i s =>
      match contributorOf i with
      | some c => [s.contexts[c].pageErrors, s.contexts[c].losses, s.contexts[c].restarts]
      | none => [])
    (fun i s =>
      match contributorOf i with
      | some c => s.updContext c fun x => { x with pageErrors := 0, losses := 0, restarts := 0 }
      | none => s) s

/-- R166, destination. -/
def serveCountersDestination (e : Env) (tag : Byte) (fields : List Byte) (s : State) : State :=
  countersRequest e tag fields 3 128
    (fun i s =>
      match destOf i with
      | some d => [s.mix[d].clipCount]
      | none => [])
    (fun i s =>
      match destOf i with
      | some d => s.updMix d fun m => { m with clipCount := 0 }
      | none => s) s

/-! ### RESET (R167) and the resets of the pins -/

/-- The part as after power-on, its straps read as `straps`; the commands that wait still wait. -/
def restartPart (straps : Fin 8) (s : State) : State :=
  { State.powerUp straps with choices := s.choices, pending := s.pending }

/-- R167: the checks of RESET; the row's form stands (log 14). -/
def resetRequest (e : Env) (tag : Byte) (fields : List Byte) (act : State → State) (s : State) : State :=
  request e nReset tag fields (fun s =>
    match fields with
    | [form] => if 1 < form.toNat then badField e nReset tag 1 s else act s
    | _ => reply e nReset tag rBadLength [] s) s

/-- R167: FULL. -/
def serveResetFull (e : Env) (tag : Byte) (fields : List Byte) (s : State) : State :=
  resetRequest e tag fields (fun s => restartPart s.straps s) s

/-- R116, R134, R167: CLEAR TALK. -/
def serveClearTalk (e : Env) (tag : Byte) (fields : List Byte) (s : State) : State :=
  resetRequest e tag fields (fun s => reply e nReset tag rOk [] (clearAllTalk s)) s

/-! ### The meanings -/

/-- MASK (R164). -/
def execMask (e : Env) (tag : Byte) (fields : List Byte) (s : State) :
    Host.Outcome State Fault Refusal := .next (serveMask e tag fields s)

/-- STATUS_DEVICE (R165). -/
def execStatusDevice (e : Env) (tag : Byte) (fields : List Byte) (s : State) :
    Host.Outcome State Fault Refusal := .next (serveStatusDevice e tag fields s)

/-- STATUS_DESTINATION (R100, R165). -/
def execStatusDestination (e : Env) (tag : Byte) (fields : List Byte) (s : State) :
    Host.Outcome State Fault Refusal := .next (serveStatusDestination e tag fields s)

/-- STATUS_CONTRIBUTOR (R153, R165). -/
def execStatusContributor (e : Env) (tag : Byte) (fields : List Byte) (s : State) :
    Host.Outcome State Fault Refusal := .next (serveStatusContributor e tag fields s)

/-- COUNTERS_PORT (R166). -/
def execCountersPort (e : Env) (tag : Byte) (fields : List Byte) (s : State) :
    Host.Outcome State Fault Refusal := .next (serveCountersPort e tag fields s)

/-- COUNTERS_DEVICE (R166). -/
def execCountersDevice (e : Env) (tag : Byte) (fields : List Byte) (s : State) :
    Host.Outcome State Fault Refusal := .next (serveCountersDevice e tag fields s)

/-- COUNTERS_CONTRIBUTOR (R166). -/
def execCountersContributor (e : Env) (tag : Byte) (fields : List Byte) (s : State) :
    Host.Outcome State Fault Refusal := .next (serveCountersContributor e tag fields s)

/-- COUNTERS_DESTINATION (R166). -/
def execCountersDestination (e : Env) (tag : Byte) (fields : List Byte) (s : State) :
    Host.Outcome State Fault Refusal := .next (serveCountersDestination e tag fields s)

/-- RESET_FULL (R167). -/
def execResetFull (e : Env) (tag : Byte) (fields : List Byte) (s : State) :
    Host.Outcome State Fault Refusal := .next (serveResetFull e tag fields s)

/-- CLEAR_TALK (R167). -/
def execClearTalk (e : Env) (tag : Byte) (fields : List Byte) (s : State) :
    Host.Outcome State Fault Refusal := .next (serveClearTalk e tag fields s)

/-- POWER_ON (R11, R26, R62). -/
def execPowerOn (straps : Fin 8) (s : State) : Host.Outcome State Fault Refusal :=
  .next (restartPart straps s)

/-- RESET_PIN (R11, R26, R62): held and released. -/
def execResetPin (straps : Fin 8) (s : State) : Host.Outcome State Fault Refusal :=
  .next (restartPart straps s)

end Sys2Proof.Machine
end

