-- ==== Sys2Proof/Machine/Tables.lean ====
section
/-! DEFINITION. The WRITE and READ requests (sections 3.11 and 3.12). -/

namespace Sys2Proof.Machine

/-- R54, steps 5 to 7, and R55 to R57: a WRITE of the right table, index and length. -/
def writeEntry (e : Env) (tag : Byte) (t : TableId) (index : Byte) (bytes : List Byte) (s : State) : State :=
  if s.store.take.isSome then reply e nWrite tag rTakePending [t.code, index] s
  else if t = .law ∧ index = 0 then reply e nWrite tag rIgnored [t.code, index, 0, 0] s
  else
    match replaceEntry s.store.staged t index bytes with
    | .error f => reply e nWrite tag rBadField [t.code, index, byte f.field, byte f.item] s
    | .ok staged =>
      reply e nWrite tag rOk [t.code, index] (s.updStore fun st => { st with staged := staged })

/-- R54: WRITE. -/
def serveWrite (e : Env) (tag : Byte) (fields : List Byte) (s : State) : State :=
  request e nWrite tag fields (fun s =>
    match fields with
    | code :: index :: bytes =>
      match TableId.ofCode code with
      | none => reply e nWrite tag rBadTable [code] s
      | some t =>
        if t.entries ≤ index.toNat then reply e nWrite tag rOutOfRange [code, index] s
        else if t.entryLength bytes = some bytes.length then writeEntry e tag t index bytes s
        else reply e nWrite tag rBadLength [code, index] s
    | _ => reply e nWrite tag rBadLength [] s) s

/-- R59: the copy that a selector names: 0 staged, 1 live. -/
def copyOf (s : State) (selector : Byte) : Option Tables :=
  if selector = 0 then some s.store.staged else if selector = 1 then some s.store.live else none

/-- R59, R60: READ. -/
def serveRead (e : Env) (tag : Byte) (fields : List Byte) (s : State) : State :=
  request e nRead tag fields (fun s =>
    match fields with
    | [code, index, selector] =>
      match TableId.ofCode code with
      | none => reply e nRead tag rBadTable [code] s
      | some t =>
        match copyOf s selector with
        | none => reply e nRead tag rBadField [code, index, 0, 0] s
        | some tb =>
          reply e nRead tag rOk
            ([code, index, selector] ++ be16 s.store.generation ++ entryBytes tb t index) s
    | _ => reply e nRead tag rBadLength [] s) s

/-- WRITE (R54 to R58). -/
def execWrite (e : Env) (tag : Byte) (fields : List Byte) (s : State) :
    Host.Outcome State Fault Refusal := .next (serveWrite e tag fields s)

/-- READ (R59 to R61). -/
def execRead (e : Env) (tag : Byte) (fields : List Byte) (s : State) :
    Host.Outcome State Fault Refusal := .next (serveRead e tag fields s)

end Sys2Proof.Machine
end

