-- ==== Sys2Proof/Machine/Lane.lean ====
section
/-! DEFINITION. Dispatch and forwarding of an accepted message (section 2.5), and the receive assembly
that accepts it (sections 2.1 and 2.2). -/

namespace Sys2Proof.Machine

/-! ### Forwarding (R32) -/

/-- R32: the port of the panel, else of the gateway, that the to-address names. -/
def addressedPort (s : State) (target : Byte) : Option Port :=
  match panelByAddress s target with
  | some i => portOf s.live.panels[i].port
  | none => (contributorByAddress s target).bind fun i => portOf s.live.contributors[i].port

/-- R32: the port that a message from port q goes out on. -/
def forwardPort (s : State) (q : Port) (target : Byte) : Option Port :=
  match addressedPort s target with
  | some p => some p
  | none => s.live.device.trunk.filter fun t => t != q

/-- R32: a forward drop. -/
def forwardDrop (q : Port) (s : State) : State :=
  raiseNotice .drop ⟨1, byte q.val, 0⟩
    (s.updCounters fun c => { c with forwardDrops := bump c.forwardDrops })

/-- R32: a message for neither the unit address nor broadcast, its from-address already examined. -/
def forwardOn (q : Port) (kind target sender : Byte) (payload : List Byte) (s : State) : State :=
  match forwardPort s q target with
  | some p => offer p .forwarded (message kind target sender payload) s
  | none => forwardDrop q s

/-- R26, R32. -/
def forwardMessage (q : Port) (kind target sender : Byte) (payload : List Byte) (s : State) : State :=
  if target == 0 || badSender s sender then addressError s else forwardOn q kind target sender payload s

/-! ### Local handling (R27, R29) -/

/-- R29: the kinds that the part takes. -/
def takenKind (kind : Byte) : Bool :=
  kind == kindKey || kind == kindLevel || kind == kindPage || kind == kindRequest

/-- R29: a message of a kind that the part does not take. -/
def unhandledDrop (s : State) : State :=
  s.updCounters fun c => { c with unhandledKinds := bump c.unhandledKinds }

/-- R27: a request with no tag. -/
def malformedRequest (s : State) : State :=
  s.updCounters fun c => { c with malformedRequests := bump c.malformedRequests }

/-- R27: a request with an unknown name, or with no tag to answer with. -/
def hearUnknown (e : Env) (payload : List Byte) (s : State) : State :=
  heard e kindRequest payload (fun s =>
    match payload with
    | name :: tag :: _ => reply e name tag rBadRequest [] s
    | _ => malformedRequest s) s

/-- Table 8-5: the row of a CONTRIBUTOR request's action byte; a byte above 7 or a wrong length is
answered alike by every row. -/
def contributorAction (fields : List Byte) : ContribIndex → State → Option State :=
  match fields with
  | [_, action] =>
    match action.toNat with
    | 0 => commandRestart
    | 1 => commandStandby
    | 2 => commandActivate
    | 3 => commandDormant
    | 4 => commandWake
    | 5 => commandLinecheckOn
    | 6 => commandLinecheckOff
    | 7 => commandClose
    | _ => commandRestart
  | _ => commandRestart

/-- The row of a STATUS request's selector. -/
def hearStatus (e : Env) (tag : Byte) (fields : List Byte) (s : State) : State :=
  match (fields.getD 0 0).toNat with
  | 1 => serveStatusDestination e tag fields s
  | 2 => serveStatusContributor e tag fields s
  | _ => serveStatusDevice e tag fields s

/-- The row of a COUNTERS request's selector. -/
def hearCounters (e : Env) (tag : Byte) (fields : List Byte) (s : State) : State :=
  match (fields.getD 0 0).toNat with
  | 1 => serveCountersDevice e tag fields s
  | 2 => serveCountersContributor e tag fields s
  | 3 => serveCountersDestination e tag fields s
  | _ => serveCountersPort e tag fields s

/-- The row of a RESET request's form. -/
def hearReset (e : Env) (tag : Byte) (fields : List Byte) (s : State) : State :=
  if fields.getD 0 0 = 1 then serveClearTalk e tag fields s else serveResetFull e tag fields s

/-- R27: a request by its name (Table 2-3). -/
def hearRequest (e : Env) (payload : List Byte) (s : State) : State :=
  match payload with
  | name :: tag :: fields =>
    match name.toNat with
    | 0x01 => serveWrite e tag fields s
    | 0x02 => serveRead e tag fields s
    | 0x03 => serveTake e tag fields s
    | 0x04 => serveCancel e tag fields s
    | 0x05 => serveRevert e tag fields s
    | 0x10 => serveRelease e tag fields s
    | 0x11 => serveQueue e tag fields s
    | 0x20 => contributorRequest e tag fields (contributorAction fields) s
    | 0x30 => serveMask e tag fields s
    | 0x31 => hearStatus e tag fields s
    | 0x32 => hearCounters e tag fields s
    | 0x3F => hearReset e tag fields s
    | _ => hearUnknown e payload s
  | _ => hearUnknown e payload s

/-- R31, R137: a PAGE. -/
def hearPagePayload (e : Env) (payload : List Byte) (s : State) : State :=
  match parsePage payload with
  | some page => hearPage e page s
  | none => pageMessage e payload pageErr s

/-- R29: local handling by kind. -/
def hearLocal (e : Env) (kind : Byte) (payload : List Byte) (s : State) : State :=
  match kind.toNat with
  | 0x10 => hearKey e payload s
  | 0x11 => hearLevel e payload s
  | 0x30 => hearPagePayload e payload s
  | 0x40 => hearRequest e payload s
  | _ => heard e kind payload unhandledDrop s

/-- Figure 2-2: an accepted message that arrived on port q, as the bytes of Table 2-2. -/
def dispatch (q : Port) (bytes : List Byte) (s : State) : State :=
  match bytes with
  | kind :: target :: sender :: length :: rest =>
    let payload := rest.take length.toNat
    if target = s.unit ∨ target = 255 then
      hearLocal { port := q, broadcast := target == 255, sender := sender } kind payload s
    else forwardMessage q kind target sender payload s
  | _ => s

/-! ### The receive assembly (R22 to R25) -/

/-- Table 2-1: what a lane marker means; none for the 245 values that are taken as ABORT. -/
inductive Marker where
  | idle
  | start (count : Nat)
  | more (count : Nat)
  | finish (count : Nat)
  | abort
  deriving DecidableEq, Repr

/-- R22: the eleven values of Table 2-1. -/
def markerOf (b : Byte) : Option Marker :=
  match b.toNat with
  | 0x00 => some .idle
  | 0x41 => some (.start 1)
  | 0x42 => some (.start 2)
  | 0x43 => some (.start 3)
  | 0x81 => some (.more 1)
  | 0x82 => some (.more 2)
  | 0x83 => some (.more 3)
  | 0xC1 => some (.finish 1)
  | 0xC2 => some (.finish 2)
  | 0xC3 => some (.finish 3)
  | 0xF0 => some .abort
  | _ => none

/-- R25: the length checks after an append: a length above 56, or more than L + 5 bytes. -/
def overlong (m : List Byte) : Bool :=
  match m[3]? with
  | some l => decide (Config.maxPayload < l.toNat) || decide (l.toNat + 5 < m.length)
  | none => false

/-- R25: a complete message is accepted: L is in range, exactly L + 5 bytes, sum 0 modulo 256. -/
def acceptable (m : List Byte) : Bool :=
  match m[3]? with
  | some l =>
    decide (l.toNat ≤ Config.maxPayload) && decide (m.length = l.toNat + 5) && byteSum m == 0
  | none => false

/-- A message in assembly is discarded as a fragment (R23, R24, R6). -/
def PortState.discardFragment (q : PortState) : PortState :=
  match q.assembly with
  | some _ => { q with assembly := none, fragments := bump q.fragments }
  | none => q

/-- A message in assembly is discarded as a lane error (R25). -/
def PortState.discardError (q : PortState) : PortState :=
  { q with assembly := none, laneErrors := bump q.laneErrors }

/-- R24, R25: the message in progress with a MORE's bytes. -/
def PortState.grow (q : PortState) (m : List Byte) : PortState :=
  if overlong m then q.discardError else { q with assembly := some m }

/-- R22 to R25: the lane bytes of a good arrival in LOCKED: the port afterwards, and the message that
was accepted, if any. -/
def PortState.takeLane (q : PortState) (marker : Byte) (data : List Byte) : PortState × Option (List Byte) :=
  match markerOf marker, q.assembly with
  | none, _ => ({ q with laneErrors := bump q.laneErrors }.discardFragment, none)
  | some .idle, _ => (q, none)
  | some .abort, _ => (q.discardFragment, none)
  | some (.start n), _ => ({ q.discardFragment with assembly := some (data.take n) }, none)
  | some (.more n), some m => (q.grow (m ++ data.take n), none)
  | some (.finish n), some m =>
    let m := m ++ data.take n
    if acceptable m then ({ q with assembly := none }, some m) else (q.discardError, none)
  | some (.more _), none => (q, none)
  | some (.finish _), none => (q, none)

/-! ### The meanings -/

/-- FORWARD (R32); a message for the unit address or for all is another row's (log 14). -/
def execForward (q : Port) (kind target sender : Byte) (payload : List Byte) (s : State) :
    Host.Outcome State Fault Refusal :=
  .next (if target = s.unit ∨ target = 255 then s else forwardMessage q kind target sender payload s)

/-- UNHANDLED_KIND (R29); a kind that the part takes is another row's (log 14). -/
def execUnhandledKind (e : Env) (kind : Byte) (payload : List Byte) (s : State) :
    Host.Outcome State Fault Refusal :=
  .next (if takenKind kind then s else heard e kind payload unhandledDrop s)

/-- R27: is the payload that of a request with a known name? -/
def knownRequest (payload : List Byte) : Bool :=
  match payload with
  | name :: _ :: _ => knownName name
  | _ => false

/-- UNKNOWN_REQUEST (R27); a request with a known name is another row's (log 14). -/
def execUnknownRequest (e : Env) (payload : List Byte) (s : State) : Host.Outcome State Fault Refusal :=
  .next (if knownRequest payload then s else hearUnknown e payload s)

end Sys2Proof.Machine
end

