-- ==== Sys2Proof/Machine/Arrival.lean ====
section
/-! DEFINITION. The receive side of a Link Port: alignment, good and bad arrivals, the slip buffer and
the clock's use of an arrival (R2 to R10, R15, R18). -/

namespace Sys2Proof.Machine

/-- R2: a frame of 55 bytes is good. -/
def goodFrame (f : List Byte) : Bool :=
  match f with
  | sync :: rest => sync == 0x5C && rest.getLast? == some (crc rest.dropLast)
  | [] => false

/-- Three bytes of audio, most significant first, from position i of a frame. -/
def sampleAt (f : List Byte) (i : Nat) : Sample := of24 (f.getD i 0) (f.getD (i + 1) 0) (f.getD (i + 2) 0)

/-- Table 1-1: the 16 samples of bytes 2..49. -/
def audioOf (f : List Byte) : Audio := Vector.ofFn fun c : Fin 16 => sampleAt f (2 + 3 * c.val)

/-- R9, R10: a push onto the slip buffer; the push that brings the depth to 4 primes it. -/
def PortState.push (q : PortState) (a : Audio) : PortState :=
  let q :=
    if Config.slipDepth ≤ q.slip.length then
      { q with slip := q.slip.drop 1, slipDiscards := bump q.slipDiscards }
    else q
  let slip := q.slip ++ [a]
  { q with slip := slip, primed := q.primed || decide (Config.primeDepth ≤ slip.length) }

/-- R5, without the sequence check: what a good arrival does to a LOCKED port besides its lane bytes. -/
def PortState.goodArrival (q : PortState) (f : List Byte) : PortState :=
  { (q.push (audioOf f)) with
    badRun := 0, silent := 0, expected := f.getD 1 0 + 1, lastPushed := audioOf f }

/-- R5: the sequence check. -/
def PortState.checkSequence (q : PortState) (f : List Byte) : PortState :=
  if f.getD 1 0 = q.expected then q else { q with sequenceErrors := bump q.sequenceErrors }

/-- R6: a bad arrival that does not end the lock. -/
def PortState.badArrival (q : PortState) : PortState :=
  let q := q.discardFragment
  { (q.push q.lastPushed) with
    crcErrors := bump q.crcErrors, badRun := q.badRun + 1, silent := 0, expected := q.expected + 1 }

/-- R22 to R25, R29: the lane bytes of a good arrival on port p, and the message they complete. -/
def takeLaneBytes (p : Port) (f : List Byte) (s : State) : State :=
  let r := s.ports[p].takeLane (f.getD 50 0) [f.getD 51 0, f.getD 52 0, f.getD 53 0]
  let s := s.updPort p fun _ => r.1
  match r.2 with
  | some m => dispatch p m s
  | none => s

/-- R15, R20: in LOCKED, an arrival on the reference port counts toward the training window, which it may close,
and makes a frame start. -/
def clockArrival (p : Port) (s : State) : State :=
  if s.clock.mode = .locked ∧ s.clock.reference = some p then
    frameStart (closeTraining (s.updClock Clock.referenceArrival))
  else s

/-- R7, R18: the arrival that ends the lock of p. On the reference port, which of the lock lost and the
reference arrival is taken first is open: a free value chooses (log 7). Where the arrival is first, the lock lost comes
before what its frame start makes due (the model's choice, log 4). -/
def lastArrival (p : Port) (s : State) : State :=
  if s.clock.mode = .locked ∧ s.clock.reference = some p then
    let first := Config.lockLostFirst s.choices
    let s := { s with choices := s.choices + 1 }
    if first then lockLost p s else lockLost p (clockArrival p s)
  else lockLost p s

/-- R5, R6, R7: an arrival on a LOCKED port. A message that it completes is handled before the frame start that
it makes on the reference port (log 27). -/
def lockedArrival (p : Port) (f : List Byte) (s : State) : State :=
  if goodFrame f then
    clockArrival p (takeLaneBytes p f (s.updPort p fun q => (q.checkSequence f).goodArrival f))
  else if Config.lossRun ≤ s.ports[p].badRun + 1 then lastArrival p s
  else clockArrival p (s.updPort p PortState.badArrival)

/-- R4: an arrival on an ACQUIRING port. -/
def acquiringArrival (p : Port) (f : List Byte) (s : State) : State :=
  if goodFrame f then
    let run := s.ports[p].goodRun + 1
    let s := s.updPort p fun q => { q with goodRun := run }
    if Config.lockRun ≤ run then
      takeLaneBytes p f ((enterLocked p s).updPort p fun q => q.goodArrival f)
    else s
  else s.updPort p fun q => { q with goodRun := 0 }

/-- An arrival on port p: a delimited frame, judged. -/
def arrivalOn (p : Port) (f : List Byte) (s : State) : State :=
  let s := s.updPort p fun q => { q with arrived := true }
  match s.ports[p].mode with
  | .disabled => s
  | .acquiring => acquiringArrival p f s
  | .locked => lockedArrival p f s

/-- R3: the bytes of a frame whose delimiting goes on: the sync byte begins it. -/
def resume (bytes : List Byte) : List Byte := bytes.dropWhile fun b => b != 0x5C

/-- R3: what the delimiter keeps when the 55 bytes of `f` are complete on a port: the alignment, and the
bytes from which it goes on. -/
def PortState.delimited (q : PortState) (f : List Byte) : PortState :=
  match q.mode with
  | .acquiring =>
    if goodFrame f then { q with aligned := true, received := [] }
    else { q with aligned := false, received := resume (f.drop 1) }
  | _ => { q with received := [] }

/-- R3: one byte of the line of port p. -/
def receiveByte (p : Port) (s : State) (b : Byte) : State :=
  let q := s.ports[p]
  if q.mode = .disabled then s
  else
    let bytes := if q.aligned then q.received ++ [b] else resume (q.received ++ [b])
    if bytes.length = 55 then arrivalOn p bytes (s.updPort p fun q => q.delimited bytes)
    else s.updPort p fun q => { q with received := bytes }

/-- The bytes of one ARRIVAL in turn. What a frame start that they make brings due is taken before the next
byte (log 4). -/
def receiveBytes (p : Port) : List Byte → State → State
  | [], s => s
  | b :: rest, s =>
    let t := receiveByte p s b
    receiveBytes p rest (if rest = [] ∨ t.now = s.now then t else settle t)

/-- ARRIVAL (R3): the ticks pass, what has fallen due is taken (log 4), then the line delivers the bytes. -/
def execArrival (p : Port) (n : Nat) (bytes : List Byte) (s : State) :
    Host.Outcome State Fault Refusal := .next (receiveBytes p bytes (settle (ticks n s)))

end Sys2Proof.Machine
end

