-- ==== Sys2Proof/Machine/Dispatch.lean ====
section
/-! DEFINITION. One arm per command. -/

namespace Sys2Proof.Machine

def exec (i : Instr) (s : State) : Host.Outcome State Fault Refusal :=
  match i with
  | .powerOn straps => Sys2Proof.Machine.execPowerOn straps s
  | .resetPin straps => Sys2Proof.Machine.execResetPin straps s
  | .arrival port ticks bytes => Sys2Proof.Machine.execArrival port ticks bytes s
  | .silenceTimeout port => Sys2Proof.Machine.execSilenceTimeout port s
  | .forward port kind target sender payload => Sys2Proof.Machine.execForward port kind target sender payload s
  | .unhandledKind env kind payload => Sys2Proof.Machine.execUnhandledKind env kind payload s
  | .keyDown env payload => Sys2Proof.Machine.execKeyDown env payload s
  | .keyUp env payload => Sys2Proof.Machine.execKeyUp env payload s
  | .level env payload => Sys2Proof.Machine.execLevel env payload s
  | .laneDrained dest lane => Sys2Proof.Machine.execLaneDrained dest lane s
  | .autoThreshold key => Sys2Proof.Machine.execAutoThreshold key s
  | .latchTimeout key => Sys2Proof.Machine.execLatchTimeout key s
  | .gatewayBase env flags offer => Sys2Proof.Machine.execGatewayBase env flags offer s
  | .gatewayTolerance env flags ms => Sys2Proof.Machine.execGatewayTolerance env flags ms s
  | .gatewayIdent env flags ident => Sys2Proof.Machine.execGatewayIdent env flags ident s
  | .gatewayNull env flags => Sys2Proof.Machine.execGatewayNull env flags s
  | .gatewayEchoBack env stamp => Sys2Proof.Machine.execGatewayEchoBack env stamp s
  | .gatewayCall env => Sys2Proof.Machine.execGatewayCall env s
  | .gatewayResume env => Sys2Proof.Machine.execGatewayResume env s
  | .gatewayClose env => Sys2Proof.Machine.execGatewayClose env s
  | .gatewayCloseAck env => Sys2Proof.Machine.execGatewayCloseAck env s
  | .pageError env payload => Sys2Proof.Machine.execPageError env payload s
  | .negotiationTimeout context => Sys2Proof.Machine.execNegotiationTimeout context s
  | .echoDue context => Sys2Proof.Machine.execEchoDue context s
  | .wakeExpiry context => Sys2Proof.Machine.execWakeExpiry context s
  | .closeTimeout context => Sys2Proof.Machine.execCloseTimeout context s
  | .write env tag fields => Sys2Proof.Machine.execWrite env tag fields s
  | .read env tag fields => Sys2Proof.Machine.execRead env tag fields s
  | .take env tag fields => Sys2Proof.Machine.execTake env tag fields s
  | .takeExecute => Sys2Proof.Machine.execTakeExecute s
  | .cancel env tag fields => Sys2Proof.Machine.execCancel env tag fields s
  | .revert env tag fields => Sys2Proof.Machine.execRevert env tag fields s
  | .release env tag fields => Sys2Proof.Machine.execRelease env tag fields s
  | .queue env tag fields => Sys2Proof.Machine.execQueue env tag fields s
  | .restart env tag fields => Sys2Proof.Machine.execRestart env tag fields s
  | .standby env tag fields => Sys2Proof.Machine.execStandby env tag fields s
  | .activate env tag fields => Sys2Proof.Machine.execActivate env tag fields s
  | .dormant env tag fields => Sys2Proof.Machine.execDormant env tag fields s
  | .wake env tag fields => Sys2Proof.Machine.execWake env tag fields s
  | .linecheckOn env tag fields => Sys2Proof.Machine.execLinecheckOn env tag fields s
  | .linecheckOff env tag fields => Sys2Proof.Machine.execLinecheckOff env tag fields s
  | .close env tag fields => Sys2Proof.Machine.execClose env tag fields s
  | .mask env tag fields => Sys2Proof.Machine.execMask env tag fields s
  | .statusDevice env tag fields => Sys2Proof.Machine.execStatusDevice env tag fields s
  | .statusDestination env tag fields => Sys2Proof.Machine.execStatusDestination env tag fields s
  | .statusContributor env tag fields => Sys2Proof.Machine.execStatusContributor env tag fields s
  | .countersPort env tag fields => Sys2Proof.Machine.execCountersPort env tag fields s
  | .countersDevice env tag fields => Sys2Proof.Machine.execCountersDevice env tag fields s
  | .countersContributor env tag fields => Sys2Proof.Machine.execCountersContributor env tag fields s
  | .countersDestination env tag fields => Sys2Proof.Machine.execCountersDestination env tag fields s
  | .resetFull env tag fields => Sys2Proof.Machine.execResetFull env tag fields s
  | .clearTalk env tag fields => Sys2Proof.Machine.execClearTalk env tag fields s
  | .unknownRequest env payload => Sys2Proof.Machine.execUnknownRequest env payload s
  | .timerFrameStart => Sys2Proof.Machine.execTimerFrameStart s
  | .fill => Sys2Proof.Machine.execFill s
  | .referenceSelection => Sys2Proof.Machine.execReferenceSelection s
  | .revertiveSwitch => Sys2Proof.Machine.execRevertiveSwitch s
  | .trainingWindowClose => Sys2Proof.Machine.execTrainingWindowClose s
  | .unknownPanel env level payload => Sys2Proof.Machine.execUnknownPanel env level payload s
  | .unknownGateway env payload => Sys2Proof.Machine.execUnknownGateway env payload s

end Sys2Proof.Machine
end

