-- ==== Sys2Proof/Safety.lean ====
section
/-! DEFINITION. What counts as a safe run, the invariants, and the frames in which claims say what a
command leaves unchanged. -/

namespace Sys2Proof.Machine

/-! ### Safe runs -/

/-- A step is safe when it answers a next state: the part never stops. -/
def State.Safe (s : State) : Prop := ∃ t, step s = .next t

/-! ### Frames -/

/-- A port without what messages touch: its egress queue and its egress drop counter. -/
def PortState.muted (q : PortState) : PortState := { q with egress := [], egressDrops := 0 }

/-- A notice class without what a raised notice touches: all but its mask. -/
def NoticeState.muted (n : NoticeState) : NoticeState := { n with pending := false, latest := none }

/-- A state without what the composing of messages touches. Two states with one `muted` differ at most
in egress queues, egress drop counters and the pending notices. -/
def State.muted (s : State) : State :=
  { s with ports := s.ports.map PortState.muted, notices := s.notices.map NoticeState.muted }

/-- A state without messages, talk, mix and contexts: what the talk and contributor commands leave. -/
def State.base (s : State) : State :=
  { s.muted with
    talk := .reset, mix := Vector.replicate 128 .reset, contexts := Vector.replicate 8 .reset }

/-- The straps, the unit address, the tables with the pending take, and the queue of commands: what
only takes, requests on tables and resets change. -/
def State.root (s : State) : Fin 8 × Byte × TableStore × List Instr := (s.straps, s.unit, s.store, s.pending)

/-- A state without messages, contexts, calling marks and last tallies: what the commands of a
contributor's link leave. -/
def State.unlinked (s : State) : State :=
  { s.muted with
    contexts := Vector.replicate 8 .reset
    talk := { s.talk with
      lastTally := Vector.replicate 64 (Vector.replicate 32 .idle), calling := Vector.replicate 8 false } }

/-- A destination's arbitration without the talker list last recorded. -/
def Arbitration.quiet (a : Arbitration) : Arbitration := { a with talkers := [] }

/-! ### Messages in the egress queues -/

/-- The REPLY to a request, as it waits in a queue (R28). -/
def replyEntry (e : Env) (name tag result : Byte) (data : List Byte) (s : State) : EgressEntry :=
  { bytes := message kindReply e.sender s.unit (name :: tag :: result :: data), origin := .reply, sent := 0 }

/-- A page to the gateway of a CONTRIBUTOR entry, as it waits in a queue (R136). -/
def pageEntry (c : ContributorEntry) (payload : List Byte) (s : State) : EgressEntry :=
  { bytes := message kindPage c.gateway s.unit payload, origin := .page, sent := 0 }

/-- A NOTICE to the notice address a, as it waits in a queue (R162). -/
def noticeEntry (s : State) (a : Byte) (k : NoticeClass) (d : Detail) : EgressEntry :=
  { bytes := noticeBytes s a k d, origin := .notice k d, sent := 0 }

/-- A TALLY of a key position, as it waits in a queue (R111). -/
def tallyEntry (p : PanelIndex) (n : KeyNumber) (y : Tally) (s : State) : EgressEntry :=
  let a := s.live.panels[p].address
  { bytes := message kindTally a s.unit [byte n.val, y.code], origin := .tally a (byte n.val), sent := 0 }

/-- A LISTEN to a panel, as it waits in a queue (R113). -/
def listenEntry (p : PanelIndex) (list : List Byte) (s : State) : EgressEntry :=
  let a := s.live.panels[p].address
  { bytes := message kindListen a s.unit (byte list.length :: list), origin := .listen a, sent := 0 }

/-- The reply stands at the tail of the arrival port's queue, no other queue and no notice has changed,
where that port had room and the request was not a broadcast (R28, R36). -/
def Answered (e : Env) (name tag result : Byte) (data : List Byte) (s t : State) : Prop :=
  e.broadcast = false → hasRoom s e.port = true → t.notices = s.notices ∧
    ∀ q : Port, t.ports[q].egress =
      if q = e.port then s.ports[q].egress ++ [replyEntry e name tag result data s]
      else s.ports[q].egress

/-- From s to t, port q was LOCKED and dropped no message: its drop counter, not at its greatest, stands. -/
def Kept (q : Port) (s t : State) : Prop :=
  s.ports[q].mode = .locked ∧ s.ports[q].egressDrops ≠ 65535 ∧ t.ports[q].egressDrops = s.ports[q].egressDrops

/-- The reply stands last in the arrival port's queue, where that port is LOCKED and dropped nothing
during the command (R28, R36). -/
def AnsweredLast (e : Env) (name tag result : Byte) (data : List Byte) (s t : State) : Prop :=
  Kept e.port s t → t.ports[e.port].egress.getLast? = some (replyEntry e name tag result data s)

/-- One page with this payload went to the gateway of contributor c, where its port had room (R34, R136). -/
def Paged (c : ContribIndex) (payload : List Byte) (s t : State) : Prop :=
  ∀ q : Port, portOf s.live.contributors[c].port = some q → hasRoom s q = true →
    let page := pageEntry s.live.contributors[c] payload s
    t.ports[q].egress.count page = s.ports[q].egress.count page + 1

/-- A page with this payload waits for the gateway of contributor c, where its port dropped nothing. -/
def PageSent (c : ContribIndex) (payload : List Byte) (s t : State) : Prop :=
  ∀ q : Port, portOf s.live.contributors[c].port = some q → Kept q s t →
    pageEntry s.live.contributors[c] payload s ∈ t.ports[q].egress

/-- The queue of the port of contributor c's gateway ends with these pages, in this order, where that port dropped
nothing. -/
def PagesLast (c : ContribIndex) (pages : List (List Byte)) (s t : State) : Prop :=
  ∀ q : Port, portOf s.live.contributors[c].port = some q → Kept q s t →
    ∃ older, t.ports[q].egress = older ++ pages.map fun b => pageEntry s.live.contributors[c] b s

/-- R162, R36: up to state t a notice of class k with detail d has been raised, by the masks, the routing, the frame
number and the unit address of state r: it waits at the notice port, or its class is pending where it was
not queued or was displaced. -/
structure Told (k : NoticeClass) (d : Detail) (r t : State) : Prop where
  queued : ∀ (p : Port) (a : Byte), r.notices[k.code].mask = false → noticeRoute r = some (p, a) →
    noticeEntry r a k d ∈ t.ports[p].egress ∨ (hasRoom t p = false ∧ t.notices[k.code].pending = true)
  held   : r.notices[k.code].mask = true ∨ noticeRoute r = none → t.notices[k.code].pending = true

/-- The last notice of its class that a command raises: where it cannot be queued, its detail is the latest. No
NOTICE of the class waited before, whose displacement could put its own detail there. -/
structure Raised (k : NoticeClass) (d : Detail) (r t : State) : Prop extends Told k d r t where
  latest : (∀ (q : Port) (x : EgressEntry) (o : Detail), x ∈ r.ports[q].egress → x.origin ≠ .notice k o) →
    (r.notices[k.code].mask = true ∨ noticeRoute r = none ∨ ∃ p a, noticeRoute r = some (p, a) ∧
      (t.ports[p].mode ≠ .locked ∨ (r.ports[p].mode = .locked ∧ 16 ≤ r.ports[p].egress.length))) →
    t.notices[k.code].latest = some d

/-- R163: the NOTICEs of the classes of `which` that are pending and unmasked in s, in class order. -/
def deliveries (which : NoticeClass → Bool) (s : State) (a : Byte) : List EgressEntry :=
  (List.finRange 7).filterMap fun i =>
    let k := NoticeClass.ofCode i
    match s.notices[i].pending, s.notices[i].mask, s.notices[i].latest with
    | true, false, some d => if which k then some (noticeEntry s a k d) else none
    | _, _, _ => none

/-- R111, R113: every last tally and every talker list that has changed from s to t was told: the TALLY or LISTEN
waits for each panel concerned whose port is LOCKED and dropped nothing. -/
structure PanelsHear (s t : State) : Prop where
  tally  : ∀ (p : PanelIndex) (n : KeyNumber) (q : Port), panelReachable t p = some q → Kept q s t →
    lastTally t p n ≠ lastTally s p n → tallyEntry p n (lastTally t p n) t ∈ t.ports[q].egress
  listen : ∀ (d : Dest) (p : PanelIndex) (q : Port), listensTo t p d = true → panelReachable t p = some q →
    Kept q s t → t.talk.dests[d].talkers ≠ s.talk.dests[d].talkers →
    listenEntry p t.talk.dests[d].talkers t ∈ t.ports[q].egress

/-! ### Steps of one block -/

/-- From s to t the context of contributor c becomes x and its calling mark `called`; but for messages and
last tallies nothing else changes. -/
structure LinkStep (c : ContribIndex) (x : Context) (called : Bool) (s t : State) : Prop where
  contexts : t.contexts = s.contexts.set c x
  calling  : t.talk.calling = s.talk.calling.set c called
  rest     : t.unlinked = s.unlinked

/-- R149: a context that enters DOWN. The tolerance, ident, counters, toggle of the part, frames and
loss mark stay. -/
def Context.closed (x : Context) : Context :=
  { x with
    state := .down, gatewayToggle := none, lastReply := none, progress := .awaitBase
    gatewayOffer := none, gatewayTolerance := none, gatewayIdent := none, resolved := Abilities.nothing
    returnMode := .absent, restartAttempts := 0, echoOutstanding := false, missCount := 0
    wakeAttempts := 0, callPending := false, average := none, longDelay := false, lastReported := 0 }

/-- R150: a context that is lost. -/
def Context.lost (x : Context) : Context := { x.closed with lossMark := true, losses := bump x.losses }

/-- R141, R145, R148, R156 to R158: a context that enters ACTIVE at frame number n. -/
def Context.opened (x : Context) (n : FrameNo) : Context :=
  { x with
    state := .active, missCount := 0, echoFrame := n, latestStamp := n.setWidth 24
    echoOutstanding := true, wakeAttempts := 0, average := none, longDelay := false, lastReported := 0 }

/-- The abilities of two offers that both have. -/
def sharedAbilities (o p : Abilities) : Abilities :=
  ⟨o.fullReturn && p.fullReturn, o.talkbackReturn && p.talkbackReturn,
   o.dormantCapable && p.dormantCapable, o.callCapable && p.callCapable⟩

/-- R141: neither way of return is in both offers. -/
def noReturn (o p : Abilities) : Prop :=
  (sharedAbilities o p).fullReturn = false ∧ (sharedAbilities o p).talkbackReturn = false

/-- R141: a context whose link is resolved: the gateway offered `o`, asked for the tolerance `asked` and named
itself `ident`. -/
def Context.agreed (x : Context) (e : ContributorEntry) (o : Abilities) (asked : Option (BitVec 16))
    (ident : BitVec 16) : Context :=
  { x with
    resolved := sharedAbilities o e.offers
    returnMode := if (sharedAbilities o e.offers).fullReturn then .full else .talkbackOnly
    tolerance :=
      if e.override ≠ 0 then e.override.toNat
      else match asked with
        | some a => min 2000 (max 20 a.toNat)
        | none => 400
    ident := ident }

/-- R145: a context that enters WAKING at frame number n. -/
def Context.woken (x : Context) (n : FrameNo) : Context :=
  { x with state := .waking, wakeAttempts := 1, wakeFrame := n, echoOutstanding := false, missCount := 0 }

/-- R146: the contexts after a claim has become ACTIVE on destination d. -/
def wokenContexts (s : State) (d : Dest) : Vector Context 8 :=
  match contributorOfReturn s d with
  | some c =>
    if s.contexts[c].state = .dormant ∧ s.live.contributors[c].wakeOnTalk = 1 then
      s.contexts.set c (s.contexts[c].woken s.now)
    else s.contexts
  | none => s.contexts

/-- R127: a lane l that is given up at frame number n is RELEASING, and the head of the wait queue, if it has one, is
bound to it. -/
def Arbitration.handsOn (a : Arbitration) (l : LaneNo) (n : FrameNo) : Arbitration :=
  { a with
    lanes := a.lanes.set l (.releasing (a.queue.head?.map fun h => { h with occupancy := n }))
    queue := a.queue.tail }

/-- R126, R127: the claim of talker x is removed from its place, at frame number n. -/
def Arbitration.removed (a : Arbitration) (place : Place) (x : Source) (n : FrameNo) : Arbitration :=
  match place with
  | .active l => a.handsOn l n
  | .bound l => a.handsOn l n
  | .waiting => { a with queue := a.queue.filter fun c => c.talker != x }

/-- R129: an occupant of lane l keeps its lane, as `lane`, with its record c; a head of the queue above it demotes in,
bound at frame number n, and c waits ahead of every claim not above it. -/
def Arbitration.keepsOr (a : Arbitration) (l : LaneNo) (lane : Lane) (c : Claim) (n : FrameNo) : Arbitration :=
  match a.queue with
  | h :: rest =>
    if c.priority < h.priority then
      { a with
        lanes := a.lanes.set l (.releasing (some { h with occupancy := n })), queue := insertReturned c rest }
    else { a with lanes := a.lanes.set l lane }
  | [] => { a with lanes := a.lanes.set l lane }

/-- R126, R129, R130: the claim `old` has lost a reference and kept another, and its record, derived again, is c. -/
def Arbitration.fallen (a : Arbitration) (place : Place) (old c : Claim) (n : FrameNo) : Arbitration :=
  match place with
  | .active l => a.keepsOr l (.active c) c n
  | .bound l => a.keepsOr l (.releasing (some c)) c n
  | .waiting =>
    { a with
      queue :=
        if c.priority < old.priority then insertBehind c (a.queue.filter fun o => o.talker != c.talker)
        else a.queue.map fun o => if o.talker = c.talker then c else o }

/-- R105, R106, R108, R126: from s to t the talk of key k ends, whose one claim was on destination d: the key is left
as `run`, the destination's arbitration as `left`, and but for messages and what the panels were told nothing else
changes. -/
structure TalkEnds (k : KeyIndex) (run : KeyRun) (d : Dest) (left : Arbitration) (s t : State) : Prop where
  keys     : t.talk.keys = s.talk.keys.set k run
  dest     : t.talk.dests[d].quiet = left.quiet
  others   : ∀ e : Dest, e ≠ d → t.talk.dests[e].quiet = s.talk.dests[e].quiet
  calling  : t.talk.calling = s.talk.calling
  mix      : t.mix = s.mix
  contexts : t.contexts = s.contexts
  rest     : t.base = s.base

/-- From s to t only the key run of k changes, but for messages and what the panels were told. -/
structure KeyStep (k : KeyIndex) (run : KeyRun) (s t : State) : Prop where
  keys     : t.talk.keys = s.talk.keys.set k run
  dests    : ∀ d : Dest, t.talk.dests[d].quiet = s.talk.dests[d].quiet
  calling  : t.talk.calling = s.talk.calling
  mix      : t.mix = s.mix
  contexts : t.contexts = s.contexts
  rest     : t.base = s.base

/-- R8: what lock lost on port p leaves of the port, from state s to state t. -/
structure LostLock (p : Port) (s t : State) : Prop where
  mode          : t.ports[p].mode = .acquiring
  aligned       : t.ports[p].aligned = false
  goodRun       : t.ports[p].goodRun = 0
  slip          : t.ports[p].slip = []
  primed        : t.ports[p].primed = false
  lastRead      : t.ports[p].lastRead = silence
  lastPushed    : t.ports[p].lastPushed = silence
  assembly      : t.ports[p].assembly = none
  egress        : t.ports[p].egress = []
  qualification : t.ports[p].qualification = 0
  lockLosses    : t.ports[p].lockLosses = bump s.ports[p].lockLosses
  fragments     : t.ports[p].fragments =
    if s.ports[p].assembly.isSome then bump s.ports[p].fragments else s.ports[p].fragments
  abortOwed     : t.ports[p].abortOwed = (s.ports[p].abortOwed || anyStarted s.ports[p].egress)

/-- R18: from s to t the clock leaves its reference p, gone, for the first qualified candidate, or for HOLDOVER, and
says so. -/
structure ReferenceLeft (p : Port) (s t : State) : Prop where
  reference : t.clock.reference = firstQualified t
  gone      : t.clock.reference ≠ some p
  mode      : t.clock.mode = if (firstQualified t).isSome then .locked else .holdover
  frame     : t.clock.frame = s.clock.frame
  period    : t.clock.period = s.clock.period
  window    : t.clock.window = none
  notice    : Raised .clock
    ⟨if (firstQualified t).isSome then 1 else 2, optByte (firstQualified t), 0⟩ s t

/-- R5, R9: a LOCKED port after a good arrival f, but for its lane bytes. -/
def PortState.stored (q : PortState) (f : List Byte) : PortState :=
  { (q.push (audioOf f)) with
    arrived := true, badRun := 0, silent := 0, lastPushed := audioOf f, expected := f.getD 1 0 + 1
    sequenceErrors := if f.getD 1 0 = q.expected then q.sequenceErrors else bump q.sequenceErrors }

/-- R6, R9: a LOCKED port after a bad arrival that does not end the lock. -/
def PortState.storedBad (q : PortState) : PortState :=
  { (q.push q.lastPushed) with
    arrived := true, badRun := q.badRun + 1, silent := 0, expected := q.expected + 1
    crcErrors := bump q.crcErrors, assembly := none
    fragments := if q.assembly.isSome then bump q.fragments else q.fragments }

/-- R15, R20: the clock after an arrival on its reference port, before its frame start. -/
def Clock.counted (c : Clock) : Clock :=
  { c with
    fillCount := 0
    window := some (match c.window with
      | none => ⟨0, 0⟩
      | some w => { w with arrivals := w.arrivals + 1 }) }

/-- R1, R7, R10, R12, R16: what a frame start that executes no take does to a port, from q to q', when the
Mix Engine has computed `audio` for its destinations and `queue` waits to be sent. The zero data bytes of an ABORT
frame, and of an IDLE frame in LOCKED, are the model's choice (log 31). -/
structure PortFrame (q q' : PortState) (queue : List EgressEntry) (audio : Audio) : Prop where
  mode          : q'.mode = q.mode
  qualification : q'.qualification = if q.mode = .locked then min (q.qualification + 1) 48000 else 0
  arrived       : q'.arrived = false
  silent        : q'.silent = if q.mode = .locked ∧ q.arrived = false then min (q.silent + 1) 8 else q.silent
  slipRead      : q.mode = .locked → q.primed = true → ∀ head rest, q.slip = head :: rest →
    q'.lastRead = head ∧ q'.slip = rest ∧ q'.slipRepeats = q.slipRepeats
  slipRepeat    : q.mode = .locked → q.primed = true → q.slip = [] →
    q'.lastRead = q.lastRead ∧ q'.slip = [] ∧ q'.slipRepeats = bump q.slipRepeats
  unprimed      : ¬ (q.mode = .locked ∧ q.primed = true) →
    q'.lastRead = q.lastRead ∧ q'.slip = q.slip ∧ q'.slipRepeats = q.slipRepeats
  disabled      : q.mode = .disabled → q'.transmitted = none ∧ q'.sequence = q.sequence ∧
    q'.abortOwed = q.abortOwed ∧ q'.egress = queue
  enabled       : q.mode ≠ .disabled → q'.sequence = q.sequence + 1 ∧ q'.abortOwed = false
  abort         : q.mode ≠ .disabled → q.abortOwed = true → q'.egress = queue ∧
    q'.transmitted = some (frameBytes q.sequence audio { marker := 0xF0, data := [0, 0, 0] })
  acquiring     : q.mode = .acquiring → q.abortOwed = false → q'.egress = queue ∧
    q'.transmitted = some (frameBytes q.sequence audio { marker := 0, data := [0, 0, 0] })
  idle          : q.mode = .locked → q.abortOwed = false → queue = [] → q'.egress = [] ∧
    q'.transmitted = some (frameBytes q.sequence audio { marker := 0, data := [0, 0, 0] })
  head          : q.mode = .locked → q.abortOwed = false → ∀ e rest, queue = e :: rest →
    q'.transmitted = some (frameBytes q.sequence audio (piece e)) ∧
    q'.egress =
      (if e.sent = 0 ∨ e.sent + 3 < e.bytes.length then { e with sent := e.sent + 3 } :: rest else rest)
  rest          :
    { q' with
      qualification := 0, arrived := false, silent := 0, lastRead := silence, slip := [], slipRepeats := 0
      transmitted := none, sequence := 0, abortOwed := false, egress := [] } =
    { q with
      qualification := 0, arrived := false, silent := 0, lastRead := silence, slip := [], slipRepeats := 0
      transmitted := none, sequence := 0, abortOwed := false, egress := [] }

/-- R95: the destinations whose output clamps from s to t for the first time since their clip flag was cleared. -/
def newClips (s t : State) : List Dest :=
  (List.finRange 128).filter fun d => t.mix[d].clipFlag && !s.mix[d].clipFlag

/-- R95, R162: the CLIP notices of a frame start from s to t for which port p, the notice port, has room. -/
def clipEntries (s t : State) (p : Port) : List EgressEntry :=
  match s.notices[NoticeClass.clip.code].mask, noticeRoute s with
  | false, some (q, a) =>
    if q = p ∧ s.ports[p].mode = .locked then
      ((newClips s t).take (16 - s.ports[p].egress.length)).map fun d =>
        noticeEntry t a .clip ⟨byte d.val, 0, 0⟩
    else []
  | _, _ => []

/-- R13, R89, R1: a frame start that executes no take, from the state s of its moment: the counter, the ports' reads,
every destination's mix on the frames read, the CLIP notices, the ports' frames; nothing else changes. -/
structure FrameStart (s t : State) : Prop where
  clock    : t.clock = { s.clock with frame := s.clock.frame + 1, sinceStart := 0, checkOwed := true }
  mix      : ∀ d : Dest, t.mix[d] = mixDest { s with ports := t.ports } d
  ports    : ∀ p : Port,
    PortFrame s.ports[p] t.ports[p] (s.ports[p].egress ++ clipEntries s t p) (outputsOf t p)
  notices  : ∀ k : NoticeClass, k ≠ .clip → t.notices[k.code] = s.notices[k.code]
  noClip   : newClips s t = [] → t.notices[NoticeClass.clip.code] = s.notices[NoticeClass.clip.code]
  clipSent : newClips s t ≠ [] → (∃ p, (clipEntries s t p).length = (newClips s t).length) →
    t.notices[NoticeClass.clip.code] = { s.notices[NoticeClass.clip.code] with pending := false }
  clipHeld : newClips s t ≠ [] → (∀ p, (clipEntries s t p).length ≠ (newClips s t).length) →
    t.notices[NoticeClass.clip.code] =
      { s.notices[NoticeClass.clip.code] with
        pending := true
        latest := (newClips s t).getLast?.map fun d => ⟨byte d.val, 0, 0⟩ }
  rest     : { t with clock := s.clock, mix := s.mix, ports := s.ports, notices := s.notices } = s

/-- R15: from v, its frame start made, to t the fourth fill takes the clock from its reference p to HOLDOVER. -/
structure LastFill (p : Port) (v t : State) : Prop where
  part   : t.muted = ((v.updPort p fun q => { q with qualification := 0 }).updClock fun c =>
    { c with
      mode := .holdover, reference := none, phase := 0, window := none, checkOwed := false
      revertHold := [] }).muted
  notice : Raised .clock ⟨2, 255, 0⟩ v t

/-! ### Messages as commands -/

/-- The envelope, the kind and the payload of a row that is a message handled locally; none for the
other rows, for a term whose payload calls for another row, and for UNKNOWN_PANEL and UNKNOWN_GATEWAY,
whose row depends on the tables. -/
def messageOf : Instr → Option (Env × Byte × List Byte)
  | .unhandledKind e k b => if takenKind k then none else some (e, k, b)
  | .keyDown e b => some (e, kindKey, b)
  | .keyUp e b => some (e, kindKey, b)
  | .level e b => some (e, kindLevel, b)
  | .gatewayBase e f a => some (e, kindPage, (Page.base f a).payload)
  | .gatewayTolerance e f v => some (e, kindPage, (Page.tolerance f v).payload)
  | .gatewayIdent e f v => some (e, kindPage, (Page.ident f v).payload)
  | .gatewayNull e f => some (e, kindPage, (Page.null f).payload)
  | .gatewayEchoBack e v => some (e, kindPage, (Page.echoBack v).payload)
  | .gatewayCall e => some (e, kindPage, Page.call.payload)
  | .gatewayResume e => some (e, kindPage, Page.resume.payload)
  | .gatewayClose e => some (e, kindPage, Page.close.payload)
  | .gatewayCloseAck e => some (e, kindPage, Page.closeAck.payload)
  | .pageError e b => if parsePage b = none then some (e, kindPage, b) else none
  | .write e tag f => some (e, kindRequest, nWrite :: tag :: f)
  | .read e tag f => some (e, kindRequest, nRead :: tag :: f)
  | .take e tag f => some (e, kindRequest, nTake :: tag :: f)
  | .cancel e tag f => some (e, kindRequest, nCancel :: tag :: f)
  | .revert e tag f => some (e, kindRequest, nRevert :: tag :: f)
  | .release e tag f => some (e, kindRequest, nRelease :: tag :: f)
  | .queue e tag f => some (e, kindRequest, nQueue :: tag :: f)
  | .restart e tag f => some (e, kindRequest, nContributor :: tag :: f)
  | .standby e tag f => some (e, kindRequest, nContributor :: tag :: f)
  | .activate e tag f => some (e, kindRequest, nContributor :: tag :: f)
  | .dormant e tag f => some (e, kindRequest, nContributor :: tag :: f)
  | .wake e tag f => some (e, kindRequest, nContributor :: tag :: f)
  | .linecheckOn e tag f => some (e, kindRequest, nContributor :: tag :: f)
  | .linecheckOff e tag f => some (e, kindRequest, nContributor :: tag :: f)
  | .close e tag f => some (e, kindRequest, nContributor :: tag :: f)
  | .mask e tag f => some (e, kindRequest, nMask :: tag :: f)
  | .statusDevice e tag f => some (e, kindRequest, nStatus :: tag :: f)
  | .statusDestination e tag f => some (e, kindRequest, nStatus :: tag :: f)
  | .statusContributor e tag f => some (e, kindRequest, nStatus :: tag :: f)
  | .countersPort e tag f => some (e, kindRequest, nCounters :: tag :: f)
  | .countersDevice e tag f => some (e, kindRequest, nCounters :: tag :: f)
  | .countersContributor e tag f => some (e, kindRequest, nCounters :: tag :: f)
  | .countersDestination e tag f => some (e, kindRequest, nCounters :: tag :: f)
  | .resetFull e tag f => some (e, kindRequest, nReset :: tag :: f)
  | .clearTalk e tag f => some (e, kindRequest, nReset :: tag :: f)
  | .unknownRequest e b => if knownRequest b then none else some (e, kindRequest, b)
  | .powerOn _ | .resetPin _ | .arrival _ _ _ | .silenceTimeout _ | .forward _ _ _ _ _ => none
  | .laneDrained _ _ | .autoThreshold _ | .latchTimeout _ | .negotiationTimeout _ | .echoDue _ => none
  | .wakeExpiry _ | .closeTimeout _ | .takeExecute | .timerFrameStart | .fill => none
  | .referenceSelection | .revertiveSwitch | .trainingWindowClose => none
  | .unknownPanel _ _ _ | .unknownGateway _ _ => none

/-- A message as it would come with the unit address in place of 255. -/
def Env.toUnit (e : Env) : Env := { e with broadcast := false }

/-- The row of the same message with the unit address in place of 255; a row that is no message as it is. -/
def toUnit : Instr → Instr
  | .unhandledKind e k b => .unhandledKind (Env.toUnit e) k b
  | .keyDown e b => .keyDown (Env.toUnit e) b
  | .keyUp e b => .keyUp (Env.toUnit e) b
  | .level e b => .level (Env.toUnit e) b
  | .gatewayBase e f a => .gatewayBase (Env.toUnit e) f a
  | .gatewayTolerance e f v => .gatewayTolerance (Env.toUnit e) f v
  | .gatewayIdent e f v => .gatewayIdent (Env.toUnit e) f v
  | .gatewayNull e f => .gatewayNull (Env.toUnit e) f
  | .gatewayEchoBack e v => .gatewayEchoBack (Env.toUnit e) v
  | .gatewayCall e => .gatewayCall (Env.toUnit e)
  | .gatewayResume e => .gatewayResume (Env.toUnit e)
  | .gatewayClose e => .gatewayClose (Env.toUnit e)
  | .gatewayCloseAck e => .gatewayCloseAck (Env.toUnit e)
  | .pageError e b => .pageError (Env.toUnit e) b
  | .write e tag f => .write (Env.toUnit e) tag f
  | .read e tag f => .read (Env.toUnit e) tag f
  | .take e tag f => .take (Env.toUnit e) tag f
  | .cancel e tag f => .cancel (Env.toUnit e) tag f
  | .revert e tag f => .revert (Env.toUnit e) tag f
  | .release e tag f => .release (Env.toUnit e) tag f
  | .queue e tag f => .queue (Env.toUnit e) tag f
  | .restart e tag f => .restart (Env.toUnit e) tag f
  | .standby e tag f => .standby (Env.toUnit e) tag f
  | .activate e tag f => .activate (Env.toUnit e) tag f
  | .dormant e tag f => .dormant (Env.toUnit e) tag f
  | .wake e tag f => .wake (Env.toUnit e) tag f
  | .linecheckOn e tag f => .linecheckOn (Env.toUnit e) tag f
  | .linecheckOff e tag f => .linecheckOff (Env.toUnit e) tag f
  | .close e tag f => .close (Env.toUnit e) tag f
  | .mask e tag f => .mask (Env.toUnit e) tag f
  | .statusDevice e tag f => .statusDevice (Env.toUnit e) tag f
  | .statusDestination e tag f => .statusDestination (Env.toUnit e) tag f
  | .statusContributor e tag f => .statusContributor (Env.toUnit e) tag f
  | .countersPort e tag f => .countersPort (Env.toUnit e) tag f
  | .countersDevice e tag f => .countersDevice (Env.toUnit e) tag f
  | .countersContributor e tag f => .countersContributor (Env.toUnit e) tag f
  | .countersDestination e tag f => .countersDestination (Env.toUnit e) tag f
  | .resetFull e tag f => .resetFull (Env.toUnit e) tag f
  | .clearTalk e tag f => .clearTalk (Env.toUnit e) tag f
  | .unknownRequest e b => .unknownRequest (Env.toUnit e) b
  | .unknownPanel e level b => .unknownPanel (Env.toUnit e) level b
  | .unknownGateway e b => .unknownGateway (Env.toUnit e) b
  | .powerOn n => .powerOn n
  | .resetPin n => .resetPin n
  | .arrival p n b => .arrival p n b
  | .silenceTimeout p => .silenceTimeout p
  | .forward p k target sender b => .forward p k target sender b
  | .laneDrained d l => .laneDrained d l
  | .autoThreshold k => .autoThreshold k
  | .latchTimeout k => .latchTimeout k
  | .negotiationTimeout c => .negotiationTimeout c
  | .echoDue c => .echoDue c
  | .wakeExpiry c => .wakeExpiry c
  | .closeTimeout c => .closeTimeout c
  | .takeExecute => .takeExecute
  | .timerFrameStart => .timerFrameStart
  | .fill => .fill
  | .referenceSelection => .referenceSelection
  | .revertiveSwitch => .revertiveSwitch
  | .trainingWindowClose => .trainingWindowClose

/-- The row i, in state s, is the message of this kind and payload: a row of `messageOf`, or UNKNOWN_PANEL or
UNKNOWN_GATEWAY where the tables do not know the sender on that port. -/
def Carries (i : Instr) (s : State) (e : Env) (kind : Byte) (payload : List Byte) : Prop :=
  messageOf i = some (e, kind, payload) ∨
  (panelHeard s e = none ∧ ∃ level : Bool,
    i = .unknownPanel e level payload ∧ kind = if level then kindLevel else kindKey) ∨
  (contextHeard s e = none ∧ i = .unknownGateway e payload ∧ kind = kindPage)

/-- The pieces of a message sent by R12 and taken by R22 to R25, at most n of them: the receiving port
afterwards, and the message that it accepted, if any. -/
def transfer : Nat → EgressEntry → PortState → PortState × Option (List Byte)
  | 0, _, q => (q, none)
  | n + 1, e, q =>
    match q.takeLane (piece e).marker (piece e).data with
    | (q', some m) => (q', some m)
    | (q', none) => transfer n { e with sent := e.sent + 3 } q'

/-! ### Invariants -/

/-- R43: LAW entry 0 is 0 in both copies. -/
def LawZero (s : State) : Prop := s.store.staged.law[0] = 0 ∧ s.store.live.law[0] = 0

/-- R14, R20: the trained period lies within 8184..8200. -/
def PeriodInRange (s : State) : Prop :=
  Config.leastPeriod ≤ s.clock.period ∧ s.clock.period ≤ Config.greatestPeriod

/-- R4, R7, R9, R16, R34: the counts and lists of a port within their greatest values. -/
structure PortState.Bounded (q : PortState) : Prop where
  slip          : q.slip.length ≤ Config.slipDepth
  egress        : q.egress.length ≤ Config.egressDepth
  qualification : q.qualification ≤ Config.settledRun
  silent        : q.silent ≤ Config.lossRun
  goodRun       : q.goodRun ≤ Config.lockRun
  acquiring     : q.mode = .acquiring → q.goodRun < Config.lockRun
  badRun        : q.badRun ≤ Config.lossRun

/-- R9, R34: every port within its bounds. -/
def PortsBounded (s : State) : Prop := ∀ p : Port, s.ports[p].Bounded

/-- R65, R70 to R73: the live tables validate, and so do the staged tables of a pending take. -/
def TablesValid (s : State) : Prop :=
  validate s.unit s.store.live = none ∧ (s.store.take ≠ none → validate s.unit s.store.staged = none)

/-- Table 5-1, R84, R96: the coefficients and the meter of a destination within their ranges. -/
structure MixState.Bounded (m : MixState) : Prop where
  slots     : ∀ i : SlotNo, m.slots[i].applied ≤ 65535
  lanes     : ∀ l : LaneNo, m.lanes[l].applied ≤ 65535
  programme : m.programme ≤ 65535
  dim       : m.dim ≤ Config.unity
  check     : m.check ≤ 65535
  master    : m.master ≤ 65535
  peak      : m.peak ≤ 8388608

/-- Every destination's mix within its ranges. -/
def MixBounded (s : State) : Prop := ∀ d : Dest, s.mix[d].Bounded

/-- R122: every wait queue holds at most 8 claims. -/
def QueuesBounded (s : State) : Prop := ∀ d : Dest, s.talk.dests[d].queue.length ≤ Config.queueDepth

/-- R104: at most 64 talks. -/
def TalksBounded (s : State) : Prop := talkCount s ≤ Config.maxTalks

/-- The claims of a destination: the lanes' occupants, then the wait queue. -/
def Arbitration.claims (a : Arbitration) : List Claim :=
  (List.finRange 4).filterMap (fun l => a.lanes[l].occupant) ++ a.queue

/-- R118, R119, R121, R122: what the rules of chapter 7 keep of one destination. -/
structure Arbitration.Ordered (a : Arbitration) : Prop where
  one     : (a.claims.map Claim.talker).Nodup
  derived : ∀ c ∈ a.claims, c.priority = c.refs.foldl (fun m r => max m r.priority) 0
  full    : a.queue ≠ [] → ∀ l : LaneNo, a.lanes[l].occupant ≠ none
  sorted  : a.queue.Pairwise fun x y => y.priority ≤ x.priority
  below   : ∀ c ∈ a.queue, ∀ (l : LaneNo) (o : Claim), a.lanes[l].occupant = some o →
    c.priority ≤ o.priority

/-- R121, R122: every destination is in order. -/
def TalkOrdered (s : State) : Prop := ∀ d : Dest, s.talk.dests[d].Ordered

/-- R111, R113: what the panels were last told is so: every position's last tally is its displayed tally,
and every destination's recorded talker list is its talker list. -/
def PanelsTold (s : State) : Prop :=
  (∀ (p : PanelIndex) (n : KeyNumber), lastTally s p n = displayed s p n) ∧
    ∀ d : Dest, s.talk.dests[d].talkers = talkerList s d

end Sys2Proof.Machine
end

