-- ==== Sys2Proof/WellFormed.lean ====
section
/-! DEFINITION. Which terms of `Instr` stand for a command that can come about: a message no longer
than Table 2-2 allows, and a row that is the one its own bytes call for. `exec` answers for the other
terms too (log 14). -/

namespace Sys2Proof

open Machine

/-- Table 2-2: a payload of 0 to 56 bytes. -/
def payloadFits (payload : List Byte) : Bool := decide (payload.length ≤ Config.maxPayload)

/-- The payload of a request: name, tag and fields. -/
def fieldsFit (fields : List Byte) : Bool := decide (fields.length + 2 ≤ Config.maxPayload)

/-- The byte at position i, when there is one, satisfies `ok`. -/
def byteIs (fields : List Byte) (i : Nat) (ok : Byte → Bool) : Bool := (fields[i]?).all ok

/-- A CONTRIBUTOR request's action byte names this row, or no row (Table 8-5). -/
def actionIs (n : Nat) (fields : List Byte) : Bool :=
  fieldsFit fields && byteIs fields 1 fun b => decide (b.toNat = n ∨ 7 < b.toNat)

/-- A STATUS, COUNTERS or RESET request's first byte names this row, or none of the `count` rows. -/
def selectorIs (n count : Nat) (fields : List Byte) : Bool :=
  fieldsFit fields && byteIs fields 0 fun b => decide (b.toNat = n ∨ count ≤ b.toNat)

/-- The action of a KEY payload, when it has the right form: DOWN is true. -/
def keyAction (payload : List Byte) : Option Bool := (keyPayload payload).map Prod.snd

def Instr.wellFormed : Instr → Bool
  | .powerOn _ => true
  | .resetPin _ => true
  | .arrival _ _ _ => true
  | .silenceTimeout _ => true
  | .forward _ _ target _ payload => target != 255 && payloadFits payload
  | .unhandledKind _ kind payload => !takenKind kind && payloadFits payload
  | .keyDown _ payload => keyAction payload != some false && payloadFits payload
  | .keyUp _ payload => keyAction payload != some true && payloadFits payload
  | .level _ payload => payloadFits payload
  | .laneDrained _ _ => true
  | .autoThreshold _ => true
  | .latchTimeout _ => true
  | .gatewayBase _ _ _ => true
  | .gatewayTolerance _ _ _ => true
  | .gatewayIdent _ _ _ => true
  | .gatewayNull _ _ => true
  | .gatewayEchoBack _ _ => true
  | .gatewayCall _ => true
  | .gatewayResume _ => true
  | .gatewayClose _ => true
  | .gatewayCloseAck _ => true
  | .pageError _ payload => (parsePage payload).isNone && payloadFits payload
  | .negotiationTimeout _ => true
  | .echoDue _ => true
  | .wakeExpiry _ => true
  | .closeTimeout _ => true
  | .write _ _ fields => fieldsFit fields
  | .read _ _ fields => fieldsFit fields
  | .take _ _ fields => fieldsFit fields
  | .takeExecute => true
  | .cancel _ _ fields => fieldsFit fields
  | .revert _ _ fields => fieldsFit fields
  | .release _ _ fields => fieldsFit fields
  | .queue _ _ fields => fieldsFit fields
  | .restart _ _ fields => actionIs 0 fields
  | .standby _ _ fields => actionIs 1 fields
  | .activate _ _ fields => actionIs 2 fields
  | .dormant _ _ fields => actionIs 3 fields
  | .wake _ _ fields => actionIs 4 fields
  | .linecheckOn _ _ fields => actionIs 5 fields
  | .linecheckOff _ _ fields => actionIs 6 fields
  | .close _ _ fields => actionIs 7 fields
  | .mask _ _ fields => fieldsFit fields
  | .statusDevice _ _ fields => selectorIs 0 3 fields
  | .statusDestination _ _ fields => selectorIs 1 3 fields
  | .statusContributor _ _ fields => selectorIs 2 3 fields
  | .countersPort _ _ fields => selectorIs 0 4 fields
  | .countersDevice _ _ fields => selectorIs 1 4 fields
  | .countersContributor _ _ fields => selectorIs 2 4 fields
  | .countersDestination _ _ fields => selectorIs 3 4 fields
  | .resetFull _ _ fields => selectorIs 0 2 fields
  | .clearTalk _ _ fields => selectorIs 1 2 fields
  | .unknownRequest _ payload => !knownRequest payload && payloadFits payload
  | .timerFrameStart => true
  | .fill => true
  | .referenceSelection => true
  | .revertiveSwitch => true
  | .trainingWindowClose => true
  | .unknownPanel _ _ payload => payloadFits payload
  | .unknownGateway _ payload => payloadFits payload

end Sys2Proof
end

