-- ==== Sys2Proof/Certificates/Slice0/Obligations.lean ====
section
/-! DEFINITION. The statements for the provers. -/

open Sys2Proof Sys2Proof.Machine

/-! ### The machine as a whole -/

/-- A step runs the command at the front of the queue on the state with the rest of the queue, and no
command touches that rest. The queue is the model's (log 16). That POWER_ON, RESET_PIN and RESET_FULL too leave the
commands that wait is the model's choice (log 17). -/
def Obligations.StepRunsFrontCommand : Prop :=
  (∀ (s : State) (c : Instr) (rest : List Instr), s.pending = c :: rest →
    step s = exec c { s with pending := rest }) ∧
  ∀ (c : Instr) (s t : State), exec c s = .next t → t.pending = s.pending

/-- On an empty queue a step lets one oscillator tick pass (the model's choice, log 2), and an ARRIVAL with ticks before
its bytes is that with one tick fewer in the state after one tick. In a tick, first what has fallen due is
taken (`settle`, log 4), then a frame start of the clock's own that is due is made, and what that brings due is taken,
then the tick passes. A timer frame start (R14) keeps the remainder of the phase; a fill (R15) adds one to the fill
count, and the fourth takes the clock to HOLDOVER. A take that is due is executed with the frame start (R66). That the
CLIP notices of a frame start stand before its transmission is the model's choice (log 12), and so are the zero data
bytes of its ABORT and LOCKED IDLE frames (log 31) and that the fourth fill enters HOLDOVER before a lock lost that the
same frame start makes due, and in place of its check of R19 (log 29). -/
def Obligations.IdleStepIsOneTick : Prop :=
  ∀ s : State,
    (s.pending = [] → step s = .next (tick s)) ∧
    (∀ (p : Port) (n : Nat) (bytes : List Byte),
      exec (.arrival p (n + 1) bytes) s = exec (.arrival p n bytes) (tick s)) ∧
    let s₀ := settle s
    let taken : TableStore :=
      { staged := s.store.staged, live := s.store.staged, generation := s.store.generation + 1, take := none }
    let passes (u : State) : Prop := tick s = (settle u).updClock fun c => c.pass 1
    let u := s₀.updClock fun c => { c with phase := c.phase - c.period }
    let w := s₀.updClock fun c => { c with fillCount := c.fillCount + 1 }
    (s₀ = s → timerDue s.clock = false → fillDue s.clock = false →
      tick s = s.updClock fun c => c.pass 1) ∧
    (timerDue s₀.clock = false → fillDue s₀.clock = false → passes s₀) ∧
    (timerDue s₀.clock = true →
      (takeDue s.store.take (s.now + 1) = false → ∃ t, FrameStart u t ∧ passes t) ∧
      (takeDue s.store.take (s.now + 1) = true →
        ∃ t, passes t ∧ t.store = taken ∧ t.clock.frame = s.clock.frame + 1)) ∧
    ∀ p : Port, fillDue s₀.clock = true → s₀.clock.reference = some p →
      (takeDue s.store.take (s.now + 1) = false → s₀.clock.fillCount < 3 → ∃ t, FrameStart w t ∧ passes t) ∧
      (takeDue s.store.take (s.now + 1) = false → 3 ≤ s₀.clock.fillCount →
        ∃ v t, FrameStart w v ∧ LastFill p v t ∧ passes t) ∧
      (takeDue s.store.take (s.now + 1) = true →
        ∃ t, passes t ∧ t.store = taken ∧ t.clock.frame = s.clock.frame + 1)

/-- The part never stops: every step is safe. -/
def Obligations.EveryStepIsSafe : Prop := ∀ s : State, s.Safe

/-- POWER_ON, RESET_PIN and RESET_FULL: the part restarts with the straps as read, or as they were,
and the commands that wait still wait (the model's choice, log 17). `choices` counts the model's own free
choices (log 7). -/
def Obligations.ResetsRestartThePart : Prop :=
  (∀ (straps : Fin 8) (s : State), ∃ t,
    exec (.powerOn straps) s = .next t ∧ exec (.resetPin straps) s = .next t ∧
      t = { State.powerUp straps with choices := s.choices, pending := s.pending }) ∧
  ∀ (e : Env) (tag : Byte) (s : State), badSender s e.sender = false → ∃ t,
    exec (.resetFull e tag [0]) s = .next t ∧ t.straps = s.straps ∧ t.pending = s.pending ∧
      { t with choices := 0, pending := [] } = State.powerUp s.straps

/-- What power-on, the reset pin and a full reset leave in the ports, the clock, the unit address, the
tables, the talk, the mix, the contexts and the notices. -/
def Obligations.ResetValues : Prop :=
  ∀ straps : Fin 8,
    let s := State.powerUp straps
    s.unit.toNat = 240 + straps.val ∧
    (∀ p : Port,
      let q := s.ports[p]
      q.mode = .acquiring ∧ q.aligned = false ∧ q.goodRun = 0 ∧ q.badRun = 0 ∧ q.silent = 0 ∧
        q.slip = [] ∧ q.primed = false ∧ q.lastRead = Vector.replicate 16 0 ∧
        q.lastPushed = Vector.replicate 16 0 ∧ q.assembly = none ∧ q.egress = [] ∧ q.sequence = 0 ∧
        q.qualification = 0 ∧ q.counters = List.replicate 8 0) ∧
    s.clock.mode = .free ∧ s.clock.reference = none ∧ s.clock.period = 8192 ∧ s.clock.phase = 0 ∧
      s.clock.window = none ∧ s.clock.fillCount = 0 ∧ s.clock.frame = 0 ∧
      deviceCounters s = List.replicate 9 0 ∧
    s.store.staged = s.store.live ∧ s.store.generation = 0 ∧ s.store.take = none ∧
    (∀ c : Fin 256, s.store.live.law[c] = defaultCoefficient c.val) ∧
    s.store.live.device.trunk = none ∧ s.store.live.device.candidates = [] ∧
    (∀ p : Port, s.store.live.device.enabled[p] = true) ∧
    (∀ d : Dest, s.store.live.destinations[d].mix = [] ∧ s.store.live.destinations[d].programme = none) ∧
    (∀ i : PanelIndex, s.store.live.panels[i].inUse = false) ∧
    (∀ k : KeyIndex, s.store.live.keys[k].inUse = false ∧ s.talk.keys[k].pos = .up ∧
      s.talk.keys[k].refused = false ∧ s.talk.keys[k].talk = none) ∧
    (∀ c : ContribIndex, s.store.live.contributors[c].inUse = false ∧ s.contexts[c].state = .down ∧
      s.contexts[c].tolerance = 400 ∧ s.talk.calling[c] = false) ∧
    (∀ d : Dest, (∀ l : LaneNo, s.talk.dests[d].lanes[l] = .free ∧ s.mix[d].lanes[l].applied = 0) ∧
      s.talk.dests[d].queue = [] ∧ s.talk.dests[d].master = 0 ∧ s.mix[d].dim = 0 ∧ s.mix[d].peak = 0) ∧
    ∀ k : Fin 7, s.notices[k] = { mask := true, pending := false, latest := none }

/-- R44: the default law, in both copies. The coefficient k of code c is x = 16384 × 10^((c − 192)/40) rounded to
the nearest integer, an exact half upward, limited to 65535; with 2x raised to the 40th power and
multiplied by 10^192, every comparison is one of integers. -/
def Obligations.DefaultLawIsExact : Prop :=
  ∀ (straps : Fin 8) (t : Tables),
    t = (State.powerUp straps).store.staged ∨ t = (State.powerUp straps).store.live →
    t.law[0] = 0 ∧ t.law[192] = 16384 ∧ t.law[12] ≠ 0 ∧ t.law[216].toNat < 65535 ∧
    ∀ c : Fin 256, c ≠ 0 →
      let k := (t.law[c]).toNat
      let x := 32768 ^ 40 * 10 ^ c.val
      (131071 ^ 40 * 10 ^ 192 ≤ x → k = 65535) ∧
      (x < 131071 ^ 40 * 10 ^ 192 → x < (2 * k + 1) ^ 40 * 10 ^ 192 ∧
        (k ≠ 0 → (2 * k - 1) ^ 40 * 10 ^ 192 ≤ x)) ∧
      (c ≤ 11 → k = 0) ∧ (217 ≤ c → k = 65535)

/-! ### Invariants that every step keeps -/

/-- LAW entry 0 stays 0 in both copies, the trained period stays within 8184..8200, and the live tables, like the
staged tables of a pending take, stay such as validation accepts. -/
def Obligations.StepKeepsLawZeroAndPeriod : Prop :=
  (∀ s t : State, LawZero s → step s = .next t → LawZero t) ∧
  (∀ s t : State, PeriodInRange s → step s = .next t → PeriodInRange t) ∧
  ∀ s t : State, TablesValid s → step s = .next t → TablesValid t

/-- Slip buffers, egress queues, qualification runs, silent counts, good runs and bad runs stay within their
bounds; an ACQUIRING port's good run stays below 16. -/
def Obligations.StepKeepsPortsBounded : Prop :=
  ∀ s t : State, PortsBounded s → step s = .next t → PortsBounded t

/-- Every coefficient, dim and meter stays within its range. -/
def Obligations.StepKeepsMixBounded : Prop :=
  ∀ s t : State, MixBounded s → step s = .next t → MixBounded t

/-- Wait queues stay at 8 claims or fewer, and talks at 64 or fewer. -/
def Obligations.StepKeepsTalkBounded : Prop :=
  ∀ s t : State, QueuesBounded s → TalksBounded s → step s = .next t → QueuesBounded t ∧ TalksBounded t

/-- Chapter 7 in one: on every destination a talker holds at most one claim, a claim's priority is the
greatest of its references', the wait queue is ordered and non-empty only while every lane is occupied,
and no waiting claim's priority exceeds an occupant's. -/
def Obligations.StepKeepsTalkOrdered : Prop :=
  ∀ s t : State, TalkOrdered s → step s = .next t → TalkOrdered t

/-- The panels are told of every change: after every step each position's last tally is its displayed
tally, and each recorded talker list is the destination's talker list. And the messages go out: where the tables are
valid, a command that is no reset, no take and makes no frame start leaves, for every last tally and talker list
that it changed, the TALLY or LISTEN in the queue of each panel concerned whose port is LOCKED and dropped nothing. -/
def Obligations.StepKeepsPanelsTold : Prop :=
  (∀ s t : State, PanelsTold s → step s = .next t → PanelsTold t) ∧
  ∀ (i : Instr) (s t : State), TablesValid s → exec i s = .next t →
    (match i with
      | .powerOn _ | .resetPin _ | .resetFull _ _ _ | .arrival _ _ _ => False
      | .takeExecute | .timerFrameStart | .fill => False
      | _ => True) → PanelsHear s t

/-- The invariants hold after reset. -/
def Obligations.ResetMeetsInvariants : Prop :=
  LawZero State.reset ∧ PeriodInRange State.reset ∧ TablesValid State.reset ∧ PortsBounded State.reset ∧
    MixBounded State.reset ∧ QueuesBounded State.reset ∧ TalksBounded State.reset ∧ TalkOrdered State.reset ∧
    PanelsTold State.reset

/-! ### Frames and messages on the wire -/

/-- What the part sends passes the checks of a receiver: a frame of any sequence, samples and lane part is
good and carries them; a control message is accepted. Running the CRC over bytes and their CRC leaves 0. -/
def Obligations.WhatIsSentIsAccepted : Prop :=
  (∀ (sequence marker a b c : Byte) (audio : Audio),
    let f := frameBytes sequence audio { marker := marker, data := [a, b, c] }
    f.length = 55 ∧ goodFrame f = true ∧ audioOf f = audio ∧ f[1]? = some sequence ∧
      f[50]? = some marker ∧ f[51]? = some a ∧ f[52]? = some b ∧ f[53]? = some c) ∧
  (∀ bytes : List Byte, crc (bytes ++ [crc bytes]) = 0) ∧
  ∀ (kind target sender : Byte) (payload : List Byte), payload.length ≤ 56 →
    (message kind target sender payload).length = payload.length + 5 ∧
      byteSum (message kind target sender payload) = 0 ∧
      acceptable (message kind target sender payload) = true

/-- The lane loses nothing: a message sent piece by piece as R12 states is accepted, whole, by a WAITING
receive assembly of R22 to R25 with its last piece, and the receiving port is otherwise as it was. -/
def Obligations.LaneCarriesMessageWhole : Prop :=
  ∀ (m : List Byte) (o : Origin) (q : PortState), acceptable m = true → q.assembly = none →
    transfer ((m.length + 2) / 3) { bytes := m, origin := o, sent := 0 } q = (q, some m)

/-- A START in ASSEMBLING discards the message in progress and counts a fragment; in WAITING it counts
nothing. In both, the assembly then holds the START frame's valid bytes. No other marker takes an
assembly out of WAITING. -/
def Obligations.StartBeginsMessage : Prop :=
  (∀ (q : PortState) (n : Nat) (b x y z : Byte), markerOf b = some (.start n) →
    q.takeLane b [x, y, z] =
      ({ q with
          assembly := some ([x, y, z].take n)
          fragments := if q.assembly.isSome then bump q.fragments else q.fragments }, none)) ∧
  ∀ (q : PortState) (b : Byte) (data : List Byte), q.assembly = none →
    (q.takeLane b data).1.assembly ≠ none → ∃ n, markerOf b = some (.start n)

/-- The entry that an accepted WRITE stages is read back byte for byte. -/
def Obligations.WrittenEntryReadsBack : Prop :=
  ∀ (tables tables' : Tables) (t : TableId) (index : Byte) (bytes : List Byte),
    index.toNat < t.entries → t.entryLength bytes = some bytes.length →
    replaceEntry tables t index bytes = .ok tables' → entryBytes tables' t index = bytes

/-- A page's payload is read as that page, and a payload read as a page is that page's. -/
def Obligations.PageCodecRoundTrip : Prop :=
  (∀ p : Page, parsePage p.payload = some p) ∧
  ∀ (b : List Byte) (p : Page), parsePage b = some p → p.payload = b

/-! ### Egress queues and notices -/

/-- R34 to R36, R12: what becomes of a message other than an own NOTICE: an own TALLY replaces, in its
place, the queued TALLY of the same panel and key that has not started, and an own LISTEN the queued LISTEN to the
same panel; otherwise a port with room takes it at the tail; a full queue gives up its newest own NOTICE that has
not started, whose class becomes pending with its detail, or the message is dropped; a port that is not LOCKED
drops it. A drop is counted and raises a DROP notice. -/
def Obligations.OfferPlacesMessage : Prop :=
  ∀ (p : Port) (o : Origin) (b : List Byte) (s : State),
    let q := s.ports[p]
    let e : EgressEntry := { bytes := b, origin := o, sent := 0 }
    let dropped : Prop := ∃ t, offer p o b s = t ∧ t.muted = s.muted ∧
      t.ports[p].egressDrops = bump q.egressDrops ∧ t.ports[p].egress = q.egress ∧
      (∀ r : Port, r ≠ p → t.ports[r].egressDrops = s.ports[r].egressDrops) ∧
      Raised .drop ⟨0, byte p.val, 0⟩ s t
    (∀ (panel key : Byte) (older newer : List EgressEntry) (old : EgressEntry),
      q.mode = .locked → q.egress = older ++ old :: newer → o = .tally panel key ∨ o = .listen panel →
      old.origin = o → old.sent = 0 → (∀ x ∈ older, x.sent = 0 → x.origin ≠ o) →
      offer p o b s =
        s.updPort p fun q => { q with egress := older ++ { old with bytes := b } :: newer }) ∧
    (q.mode = .locked → replaceIn e q.egress = none → q.egress.length < 16 →
      offer p o b s = s.updPort p fun q => { q with egress := q.egress ++ [e] }) ∧
    (∀ (older newer : List EgressEntry) (n : EgressEntry) (k : NoticeClass) (d : Detail),
      q.mode = .locked → q.egress = older ++ n :: newer → q.egress.length = 16 →
      replaceIn e q.egress = none → n.origin = .notice k d → n.sent = 0 →
      (∀ x ∈ newer, x.sent = 0 → ∀ k d, x.origin ≠ .notice k d) → ∃ t,
        offer p o b s = t ∧ t.ports[p].egress = older ++ newer ++ [e] ∧
          t.notices[k.code].pending = true ∧ t.notices[k.code].latest = some d ∧ t.muted = s.muted) ∧
    (q.mode = .locked → replaceIn e q.egress = none → ¬ q.egress.length < 16 →
      (∀ x ∈ q.egress, x.sent = 0 → ∀ k d, x.origin ≠ .notice k d) → dropped) ∧
    (q.mode ≠ .locked → dropped)

/-- R162: a notice of an unmasked class with the routing configured goes to the notice port's queue where
it has room, and the class is then not pending; masked, unrouted or without room the class becomes
pending with this detail. MASK (R164) changes every mask as its byte says, and then delivers, in class order, each
class that it changed from set to clear and that is pending (R163), before its answer, which gives the masks and the
pending flags as they then stand. It is refused whole for a byte above 2 (that the data of the refusal are the field
and item numbers alone is the model's choice, log 10, as is which of several such bytes is named, log 28). -/
def Obligations.NoticesAndMasks : Prop :=
  (∀ (k : NoticeClass) (d : Detail) (s : State),
    (∀ (p : Port) (a : Byte), s.notices[k.code].mask = false → noticeRoute s = some (p, a) →
      hasRoom s p = true → ∃ t, raiseNotice k d s = t ∧
        t.ports[p].egress = s.ports[p].egress ++ [noticeEntry s a k d] ∧
        t.notices[k.code].pending = false ∧ t.muted = s.muted) ∧
    (s.notices[k.code].mask = true ∨ noticeRoute s = none ∨
        (∃ p a, noticeRoute s = some (p, a) ∧ hasRoom s p = false) →
      raiseNotice k d s =
        s.updNotice k fun n => { n with pending := true, latest := some d })) ∧
  ∀ (e : Env) (tag : Byte) (fields : List Byte) (s : State), badSender s e.sender = false →
    fields.length = 7 →
    ((∀ b ∈ fields, b.toNat ≤ 2) → ∃ t, exec (.mask e tag fields) s = .next t ∧
      t.muted = (setMasks fields s).muted ∧
      (∀ k : Fin 7, t.notices[k].mask =
        if fields[k.val]? = some 1 then true
        else if fields[k.val]? = some 2 then false else s.notices[k].mask) ∧
      (e.broadcast = false → hasRoom t e.port = true →
        (∀ p a, noticeRoute s = some (p, a) → hasRoom t p = true) →
        (let flags (b : NoticeState → Bool) : List Byte := (List.finRange 7).map fun k => yesNo (b t.notices[k]);
        let answer := replyEntry e nMask tag rOk (flags (·.mask) ++ flags (·.pending)) s;
        ∀ q : Port, t.ports[q].egress = s.ports[q].egress ++
          (match noticeRoute s with
            | some (p, a) =>
              if q = p then deliveries (fun k => s.notices[k.code].mask) (setMasks fields s) a else []
            | none => []) ++ (if q = e.port then [answer] else [])) ∧
        ∀ k : NoticeClass, s.notices[k.code].mask = true → fields[k.code.val]? = some 2 →
          (∃ d, s.notices[k.code].latest = some d) → noticeRoute s ≠ none →
          t.notices[k.code].pending = false)) ∧
    (∀ k, maskFault fields = some k → ∃ t, exec (.mask e tag fields) s = .next t ∧ t.muted = s.muted ∧
      Answered e nMask tag rBadField [byte (k + 1), 0] s t)

/-! ### Link ports -/

/-- R9: a push keeps the order, drops the oldest frame of a full buffer and counts it, and primes the
buffer at depth 4. -/
def Obligations.PushKeepsNewestFrames : Prop :=
  ∀ (q : PortState) (a : Audio), q.slip.length ≤ 8 →
    (q.push a).slip = (q.slip ++ [a]).drop (q.slip.length + 1 - 8) ∧
    (q.push a).slip.length = min 8 (q.slip.length + 1) ∧
    (q.push a).slipDiscards = (if q.slip.length = 8 then bump q.slipDiscards else q.slipDiscards) ∧
    ((q.push a).primed = true ↔ q.primed = true ∨ 3 ≤ q.slip.length)

/-- ARRIVAL on a port that is not LOCKED (R3, R4), from `settle s`: what has fallen due is taken before the bytes arrive
(the model's choice, log 4). A DISABLED port hears nothing. On an ACQUIRING port the search waits for a sync byte and
gathers 55 bytes from it; a good frame finds, or keeps, the alignment and adds one to the good run; a bad one sets the
good run to 0 and loses the alignment, and the search goes on behind its first byte. With the alignment found and a good
run of 15, the 55 bytes of a good frame take the port to LOCKED, and the frame is its first, its lane bytes taken. A PORT
notice is raised; where the tables are valid, the TALLYs that are not IDLE go to the port's panels, and to each panel
that listens to a destination its LISTEN (R111, R113). But for messages nothing but the port changes. (An ARRIVAL with
ticks before its bytes is that of the state after the ticks: IdleStepIsOneTick.) -/
def Obligations.SixteenthGoodArrivalLocks : Prop :=
  ∀ (p : Port) (s : State),
    let s₀ := settle s
    let q := s₀.ports[p]
    let search (line : List Byte) : List Byte := line.dropWhile fun b => b != 0x5C
    let hears (bytes : List Byte) (after : PortState) : Prop :=
      exec (.arrival p 0 bytes) s = .next (s₀.updPort p fun _ => after)
    let good : PortState :=
      { q with arrived := true, aligned := true, received := [], goodRun := q.goodRun + 1 }
    let bad (line : List Byte) : PortState :=
      { q with arrived := true, aligned := false, received := search (line.drop 1), goodRun := 0 }
    (∀ bytes, q.mode = .disabled → exec (.arrival p 0 bytes) s = .next s₀) ∧
    (∀ b : Byte, q.mode = .acquiring →
      let line := if q.aligned then q.received ++ [b] else search (q.received ++ [b])
      (line.length ≠ 55 → hears [b] { q with received := line }) ∧
      (line.length = 55 → goodFrame line = true → q.goodRun < 15 → hears [b] good) ∧
      (line.length = 55 → goodFrame line = false → hears [b] (bad line))) ∧
    (∀ bytes : List Byte, q.mode = .acquiring → q.aligned = false → q.received = [] → (∀ b ∈ bytes, b ≠ 0x5C) →
      exec (.arrival p 0 bytes) s = .next s₀) ∧
    (∀ f : List Byte, q.mode = .acquiring → q.received = [] → f.length = 55 → q.goodRun < 15 →
      goodFrame f = true → hears f good) ∧
    (∀ f : List Byte, q.mode = .acquiring → q.received = [] → f.length = 55 → q.aligned = true →
      goodFrame f = false → hears f (bad f)) ∧
    ∀ f : List Byte, q.mode = .acquiring → q.aligned = true → q.received = [] → q.goodRun = 15 →
      f.length = 55 → goodFrame f = true → ∃ t,
      exec (.arrival p 0 f) s = .next t ∧
      (let locked : PortState :=
        { q with
          arrived := true, mode := .locked, goodRun := 16, badRun := 0, silent := 0, slip := [audioOf f]
          primed := false, lastRead := silence, lastPushed := audioOf f, expected := f.getD 1 0 + 1
          assembly := none };
      t.muted = (s₀.updPort p fun _ =>
        (locked.takeLane (f.getD 50 0) [f.getD 51 0, f.getD 52 0, f.getD 53 0]).1).muted) ∧
      Raised .port ⟨byte p.val, 2, 0⟩ s₀ t ∧
      (TablesValid s₀ → s₀.ports[p].egressDrops ≠ 65535 →
        t.ports[p].egressDrops = s₀.ports[p].egressDrops → ∀ i : PanelIndex,
        s₀.live.panels[i].inUse = true → portOf s₀.live.panels[i].port = some p →
        (∀ n : KeyNumber, lastTally s₀ i n ≠ .idle →
          tallyEntry i n (lastTally s₀ i n) s₀ ∈ t.ports[p].egress) ∧
        ∀ d : Dest, destOf s₀.live.panels[i].listen = some d →
          listenEntry i (talkerList s₀ d) s₀ ∈ t.ports[p].egress)

/-- ARRIVAL on a LOCKED port that is not the clock's reference (R5, R6, R22 to R25), from `settle s` (log 4). A good
frame is stored and its lane bytes taken. Where they complete no message nothing but the port changes. Where they
complete one, the arrival then acts as that message's row (R26 to R29, R32): as the row of a message to the unit
address or to all, or as FORWARD. A bad frame that does not end the lock is stored as the last pushed, and the
message in assembly is a fragment. -/
def Obligations.LockedArrivalIsStored : Prop :=
  ∀ (p : Port) (f : List Byte) (s : State),
    let s₀ := settle s
    s₀.ports[p].mode = .locked → s₀.ports[p].aligned = true → s₀.ports[p].received = [] → f.length = 55 →
    s₀.clock.reference ≠ some p →
    let lane (q : PortState) := (q.stored f).takeLane (f.getD 50 0) [f.getD 51 0, f.getD 52 0, f.getD 53 0]
    let s' := s₀.updPort p fun q => (lane q).1
    (goodFrame f = true → f[50]? = some 0 →
      exec (.arrival p 0 f) s = .next (s₀.updPort p fun q => q.stored f)) ∧
    (goodFrame f = true → (lane s₀.ports[p]).2 = none → exec (.arrival p 0 f) s = .next s') ∧
    (∀ m, goodFrame f = true → (lane s₀.ports[p]).2 = some m →
      (∀ (i : Instr) (e : Env) (kind : Byte) (payload : List Byte), i.wellFormed = true →
        messageOf i = some (e, kind, payload) → e.port = p → (e.broadcast = false → s.unit ≠ 255) →
        m = message kind (if e.broadcast then 255 else s.unit) e.sender payload →
        exec (.arrival p 0 f) s = exec i s') ∧
      ∀ (kind target sender : Byte) (payload : List Byte), target ≠ s.unit → target ≠ 255 →
        m = message kind target sender payload →
        exec (.arrival p 0 f) s = exec (.forward p kind target sender payload) s') ∧
    (goodFrame f = false → s₀.ports[p].badRun < 7 →
      exec (.arrival p 0 f) s = .next (s₀.updPort p PortState.storedBad))

/-- ARRIVAL on the reference port in LOCKED (R15: good or bad), from `settle s` (log 4): after the push and what its
lane bytes complete, it makes a frame start: the fill count is 0, the training window counts
the arrival and may close (R20), and every port and destination does its work. A message that it completes acts as
its row before the frame start (the model's choice, log 27). A take that is due at it is executed with it (R66). That the
CLIP notices of a frame start stand before its transmission, in ascending destination, is the model's choice (log 12),
and so are the zero data bytes of its ABORT and LOCKED IDLE frames (log 31). -/
def Obligations.ReferenceArrivalMakesFrameStart : Prop :=
  ∀ (p : Port) (f : List Byte) (s : State),
    let s₀ := settle s
    s₀.ports[p].mode = .locked → s₀.ports[p].aligned = true → s₀.ports[p].received = [] → f.length = 55 →
    s₀.clock.mode = .locked → s₀.clock.reference = some p →
    let lane (q : PortState) := (q.stored f).takeLane (f.getD 50 0) [f.getD 51 0, f.getD 52 0, f.getD 53 0]
    let s' := s₀.updPort p fun q => (lane q).1
    let starts (u : State) : Prop :=
      (takeDue u.store.take (u.now + 1) = false → ∃ v t,
        exec .trainingWindowClose (u.updClock Clock.counted) = .next v ∧ FrameStart v t ∧
          exec (.arrival p 0 f) s = .next t ∧ t.clock.frame = u.clock.frame + 1 ∧ t.clock.fillCount = 0 ∧
          t.clock.sinceStart = 0 ∧ t.clock.mode = .locked ∧ t.clock.reference = some p ∧ t.store = u.store) ∧
      (takeDue u.store.take (u.now + 1) = true → ∃ t, exec (.arrival p 0 f) s = .next t ∧
        t.clock.frame = u.clock.frame + 1 ∧ t.clock.fillCount = 0 ∧ t.clock.sinceStart = 0 ∧
        t.store = { staged := u.store.staged, live := u.store.staged
                    generation := u.store.generation + 1, take := none })
    (goodFrame f = true → (lane s₀.ports[p]).2 = none → starts s') ∧
    (∀ m, goodFrame f = true → (lane s₀.ports[p]).2 = some m →
      (∀ (i : Instr) (e : Env) (kind : Byte) (payload : List Byte) (u : State), i.wellFormed = true →
        messageOf i = some (e, kind, payload) → e.port = p → (e.broadcast = false → s.unit ≠ 255) →
        m = message kind (if e.broadcast then 255 else s.unit) e.sender payload → exec i s' = .next u →
        u.clock.mode = .locked → u.clock.reference = some p → starts u) ∧
      ∀ (kind target sender : Byte) (payload : List Byte) (u : State), target ≠ s.unit → target ≠ 255 →
        m = message kind target sender payload → exec (.forward p kind target sender payload) s' = .next u →
        starts u) ∧
    (goodFrame f = false → s₀.ports[p].badRun < 7 → starts (s₀.updPort p PortState.storedBad))

/-- ARRIVAL: the eighth bad arrival in a row ends the lock (R7, R8), from `settle s` (log 4). On a port that is not
the reference the clock is as it was. On the reference port the clock leaves it (R18), and which comes first, the
lock lost or the frame start of R15, is open (a free value of the model, log 7): where the lock lost is taken first no
frame start is made, where the arrival is, its frame start comes before the lock lost, and the lock lost before what that
frame start makes due (log 4). That the CLIP notices of that
frame start stand before its transmission, in ascending destination, is the model's choice (log 12), and so are the zero
data bytes of its ABORT and LOCKED IDLE frames (log 31). -/
def Obligations.EighthBadArrivalEndsLock : Prop :=
  ∀ (p : Port) (f : List Byte) (s : State),
    let s₀ := settle s
    s₀.ports[p].mode = .locked → s₀.ports[p].aligned = true → s₀.ports[p].received = [] → f.length = 55 →
    goodFrame f = false → s₀.ports[p].badRun = 7 →
    let notice : Detail := ⟨byte p.val, 1, 0⟩
    (s₀.clock.reference ≠ some p → ∃ t, exec (.arrival p 0 f) s = .next t ∧ LostLock p s₀ t ∧
      Raised .port notice s₀ t ∧ t.clock = s₀.clock ∧ t.store = s₀.store) ∧
    (s₀.clock.mode = .locked → s₀.clock.reference = some p →
      (Config.lockLostFirst s₀.choices = true → ∃ t, exec (.arrival p 0 f) s = .next t ∧ LostLock p s₀ t ∧
        Raised .port notice s₀ t ∧ ReferenceLeft p s₀ t ∧ t.store = s₀.store) ∧
      (Config.lockLostFirst s₀.choices = false → takeDue s₀.store.take (s₀.now + 1) = false → ∃ v u t,
        (let hit := s₀.updPort p fun q => { q with arrived := true };
        exec .trainingWindowClose ({ hit with choices := s₀.choices + 1 }.updClock Clock.counted) = .next v) ∧
        FrameStart v u ∧ exec (.arrival p 0 f) s = .next t ∧ LostLock p u t ∧ Raised .port notice u t ∧
        ReferenceLeft p u t ∧ t.store = s₀.store))

/-- SILENCE_TIMEOUT (R7, R8, R18): a LOCKED port whose silent count is 8 loses its lock; its panels' keys
are UP with no talk; the classes of the own NOTICEs in its queue are pending, where no other port is the notice port;
a PORT notice is raised; the clock leaves the port for the first qualified candidate or for HOLDOVER, with a CLOCK
notice, if it was the reference, and is as it was if it was not. -/
def Obligations.SilenceEndsLock : Prop :=
  ∀ (p : Port) (s : State), s.ports[p].mode = .locked → s.ports[p].silent = 8 → ∃ t,
    exec (.silenceTimeout p) s = .next t ∧ LostLock p s t ∧ t.store = s.store ∧
      Raised .port ⟨byte p.val, 1, 0⟩ s t ∧
      (∀ (x : EgressEntry) (k : NoticeClass) (d : Detail), x ∈ s.ports[p].egress → x.origin = .notice k d →
        (∀ q a, noticeRoute s = some (q, a) → q = p) → t.notices[k.code].pending = true) ∧
      (∀ k : KeyIndex, keyPort s k = some p →
        t.talk.keys[k].talk = none ∧ t.talk.keys[k].pos = .up ∧ t.talk.keys[k].refused = false) ∧
      (s.clock.reference ≠ some p → t.clock = s.clock) ∧
      (s.clock.reference = some p → ReferenceLeft p s t)

/-! ### Frame clock -/

/-- TIMER_FRAME_START (R13, R14, R1): outside LOCKED, once what has fallen due is taken (log 4), the timer's frame
start is made one trained period after the last, the remainder carried; every port and destination does its work.
A take that is due at it is executed with it (R66). That the CLIP notices of the frame start stand before its
transmission, in ascending destination, is the model's choice (log 12), and so are the zero data bytes of its ABORT and
LOCKED IDLE frames (log 31). -/
def Obligations.TimerMakesFrameStart : Prop :=
  ∀ s : State, let s₀ := settle s; s₀.clock.mode ≠ .locked → ∃ t, exec .timerFrameStart s = .next t ∧
    let n := (s₀.clock.period - s₀.clock.phase + 15) / 16
    let u := s₀.updClock fun c =>
      { c with
        sinceStart := c.sinceStart + n, phase := c.phase + 16 * n - c.period
        window := c.window.map fun w => { w with ticks := w.ticks + n } }
    (takeDue s₀.store.take (s₀.now + 1) = false → FrameStart u t) ∧
    (takeDue s₀.store.take (s₀.now + 1) = true →
      t.store = { staged := s.store.staged, live := s.store.staged
                  generation := s.store.generation + 1, take := none }) ∧
    t.clock.frame = s.clock.frame + 1 ∧ t.clock.sinceStart = 0 ∧ t.clock.period = s₀.clock.period ∧
    (s₀.clock.phase < s₀.clock.period → u.clock.phase < 16)

/-- FILL (R15): in LOCKED, once what has fallen due is taken (log 4), a fill is a frame start 1.5 trained periods after
the last that adds one to the fill count; the fourth takes the clock to HOLDOVER with no reference, with a CLOCK notice,
the old reference's qualification run 0, the window abandoned and the timer phase from the fill. A take that is due at
it is executed with it (R66). That the CLIP notices of the frame start stand before its transmission, in ascending
destination, is the model's choice (log 12), and so are the zero data bytes of its ABORT and LOCKED IDLE frames (log 31)
and that the fourth fill enters HOLDOVER before a lock lost that the same frame start makes due, and in place of its
check of R19 (log 29). -/
def Obligations.FillMakesFrameStart : Prop :=
  ∀ (s : State) (p : Port), let s₀ := settle s; s₀.clock.mode = .locked → s₀.clock.reference = some p →
    let n := (3 * s₀.clock.period + 31) / 32 - s₀.clock.sinceStart
    let u := s₀.updClock fun c =>
      { c with
        sinceStart := c.sinceStart + n, fillCount := c.fillCount + 1
        window := c.window.map fun w => { w with ticks := w.ticks + n } }
    (takeDue s₀.store.take (s₀.now + 1) = false →
      (s₀.clock.fillCount < 3 → ∃ t, exec .fill s = .next t ∧ FrameStart u t) ∧
      (3 ≤ s₀.clock.fillCount → ∃ v t, FrameStart u v ∧ exec .fill s = .next t ∧ LastFill p v t)) ∧
    (takeDue s₀.store.take (s₀.now + 1) = true → ∃ t, exec .fill s = .next t ∧
      t.clock.frame = s.clock.frame + 1 ∧ t.clock.sinceStart = 0 ∧
      t.store = { staged := s.store.staged, live := s.store.staged
                  generation := s.store.generation + 1, take := none })

/-- REFERENCE_SELECTION (R17): outside LOCKED, the first qualified candidate in list order becomes the
reference, with a CLOCK notice (R21); with none the clock stays as it is. REVERTIVE_SWITCH (R19): in LOCKED, the
earliest settled candidate before the reference takes over, with a CLOCK notice; a candidate that is only qualified
does not, nor one that a take has put there since the last check (log 5). Both settle the check that the frame start
owes, in fields of the model's own (logs 4 and 5). -/
def Obligations.CandidatesBecomeReference : Prop :=
  let taken (i : Instr) (p : Port) (s : State) : Prop := ∃ t, exec i s = .next t ∧
    t.muted = (s.updClock fun c =>
      { c with mode := .locked, reference := some p, fillCount := 0, window := none
               checkOwed := false, revertHold := [] }).muted ∧
    Raised .clock ⟨1, byte p.val, 0⟩ s t
  let stays (i : Instr) (s : State) : Prop :=
    exec i s = .next (s.updClock fun c => { c with checkOwed := false, revertHold := [] })
  (∀ s : State, s.clock.mode ≠ .locked →
    (∀ (earlier later : List Port) (p : Port), s.live.device.candidates = earlier ++ p :: later →
      480 ≤ s.ports[p].qualification → (∀ q ∈ earlier, s.ports[q].qualification < 480) →
      taken .referenceSelection p s) ∧
    ((∀ q ∈ s.live.device.candidates, s.ports[q].qualification < 480) → stays .referenceSelection s)) ∧
  ∀ (s : State) (earlier later : List Port) (p : Port), s.clock.mode = .locked →
    s.clock.reference = some p → s.live.device.candidates = earlier ++ p :: later → p ∉ earlier →
    (∀ (first rest : List Port) (q : Port), earlier = first ++ q :: rest →
      48000 ≤ s.ports[q].qualification → q ∉ s.clock.revertHold →
      (∀ r ∈ first, s.ports[r].qualification < 48000 ∨ r ∈ s.clock.revertHold) →
      taken .revertiveSwitch q s) ∧
    ((∀ q ∈ earlier, s.ports[q].qualification < 48000 ∨ q ∈ s.clock.revertHold) → stays .revertiveSwitch s)

/-- TRAINING_WINDOW_CLOSE (R20): at the 4096th arrival the candidate period is the ticks over 256, halves
up; it is accepted for 2,094,976 to 2,099,327 ticks and otherwise rejected and counted. The closing
arrival opens the next window. -/
def Obligations.TrainingWindowCloses : Prop :=
  ∀ (s : State) (w : Window), s.clock.mode = .locked → s.clock.window = some w → w.arrivals = 4096 →
    exec .trainingWindowClose s = .next (s.updClock fun c =>
      { c with
        window := some ⟨0, 0⟩
        period := if 2094976 ≤ w.ticks ∧ w.ticks ≤ 2099327 then (w.ticks + 128) / 256 else c.period
        trainingRejections :=
          if 2094976 ≤ w.ticks ∧ w.ticks ≤ 2099327 then c.trainingRejections
          else bump c.trainingRejections })

/-! ### Control lane -/

/-- R26: a message from address 0, from 255 or from the unit address is dropped and counted, whatever its
row, UNKNOWN_PANEL and UNKNOWN_GATEWAY among them; FORWARD likewise, and also for the to-address 0. -/
def Obligations.BadAddressesAreDropped : Prop :=
  (∀ (i : Instr) (e : Env) (k : Byte) (b : List Byte) (s : State), Carries i s e k b →
    e.sender = 0 ∨ e.sender = 255 ∨ e.sender = s.unit →
    exec i s = .next (s.updCounters fun c => { c with addressErrors := bump c.addressErrors })) ∧
  ∀ (q : Port) (k target sender : Byte) (b : List Byte) (s : State),
    target ≠ s.unit → target ≠ 255 → target = 0 ∨ sender = 0 ∨ sender = 255 ∨ sender = s.unit →
    exec (.forward q k target sender b) s =
      .next (s.updCounters fun c => { c with addressErrors := bump c.addressErrors })

/-- R33, for every row that is a message: a broadcast from a port other than the trunk is offered unchanged to the
trunk, and then acts as its row with the unit address does (that order is the model's choice, log 8; a RESET_FULL then
abandons the offered copy, R167); on the trunk, or with no trunk, it only acts. -/
def Obligations.BroadcastGoesToTrunk : Prop :=
  ∀ (i : Instr) (e : Env) (kind : Byte) (payload : List Byte) (s : State),
    Carries i s e kind payload → e.broadcast = true → badSender s e.sender = false →
    (∀ t, s.live.device.trunk = some t → t ≠ e.port →
      exec i s = exec (toUnit i) (offer t .forwarded (message kind 255 e.sender payload) s)) ∧
    (s.live.device.trunk = none ∨ s.live.device.trunk = some e.port → exec i s = exec (toUnit i) s)

/-- FORWARD (R32): to the port of the first panel, else of the first gateway, with the to-address; else
to the trunk when it did not come from there; else a forward drop, with a DROP notice. The bytes are those that
arrived. -/
def Obligations.ForwardRoutes : Prop :=
  ∀ (q : Port) (kind target sender : Byte) (b : List Byte) (s : State), badSender s sender = false →
    target ≠ 0 → target ≠ s.unit → target ≠ 255 →
    (∀ i p, panelByAddress s target = some i → portOf s.live.panels[i].port = some p →
      exec (.forward q kind target sender b) s =
        .next (offer p .forwarded (message kind target sender b) s)) ∧
    (∀ i p, panelByAddress s target = none → contributorByAddress s target = some i →
      portOf s.live.contributors[i].port = some p →
      exec (.forward q kind target sender b) s =
        .next (offer p .forwarded (message kind target sender b) s)) ∧
    (panelByAddress s target = none → contributorByAddress s target = none →
      (∀ t, s.live.device.trunk = some t → t ≠ q →
        exec (.forward q kind target sender b) s =
          .next (offer t .forwarded (message kind target sender b) s)) ∧
      (s.live.device.trunk = none ∨ s.live.device.trunk = some q → ∃ t,
        exec (.forward q kind target sender b) s = .next t ∧
          t.counters = { s.counters with forwardDrops := bump s.counters.forwardDrops } ∧
          t.muted = (s.updCounters fun c => { c with forwardDrops := bump c.forwardDrops }).muted ∧
          Raised .drop ⟨1, byte q.val, 0⟩ s t))

/-- UNHANDLED_KIND, UNKNOWN_PANEL, UNKNOWN_GATEWAY and UNKNOWN_REQUEST (R27, R29, R30, R31): each counts
once, or answers BAD_REQUEST, and changes nothing else but messages. -/
def Obligations.UnusableMessagesAreCounted : Prop :=
  ∀ (e : Env) (s : State), badSender s e.sender = false →
    (∀ kind b, kind ≠ kindKey → kind ≠ kindLevel → kind ≠ kindPage → kind ≠ kindRequest → ∃ t,
      exec (.unhandledKind e kind b) s = .next t ∧
        t.muted = (s.updCounters fun c => { c with unhandledKinds := bump c.unhandledKinds }).muted) ∧
    (∀ level b, panelHeard s e = none → ∃ t, exec (.unknownPanel e level b) s = .next t ∧
      t.muted = (s.updCounters fun c => { c with unknownPanels := bump c.unknownPanels }).muted) ∧
    (∀ b, contextHeard s e = none → ∃ t, exec (.unknownGateway e b) s = .next t ∧
      t.muted = (s.updCounters fun c => { c with unknownGateways := bump c.unknownGateways }).muted) ∧
    (∀ b, b.length < 2 → ∃ t, exec (.unknownRequest e b) s = .next t ∧
      t.muted = (s.updCounters fun c => { c with malformedRequests := bump c.malformedRequests }).muted) ∧
    ∀ name tag f, knownName name = false → ∃ t,
      exec (.unknownRequest e (name :: tag :: f)) s = .next t ∧ t.muted = s.muted ∧
        Answered e name tag rBadRequest [] s t

/-! ### Tables and takes -/

/-- WRITE (R54, R55): an entry of a known table, in range, of the right length and free of faults, with no
take pending, replaces the staged entry: it reads back byte for byte, and every other staged entry of every table, and
everything else but messages, is as it was. -/
def Obligations.WriteStagesEntry : Prop :=
  ∀ (e : Env) (tag index : Byte) (t : TableId) (bytes : List Byte) (staged : Tables) (s : State),
    badSender s e.sender = false → s.store.take = none → index.toNat < t.entries →
    t.entryLength bytes = some bytes.length → ¬ (t = .law ∧ index = 0) →
    replaceEntry s.store.staged t index bytes = .ok staged → ∃ s',
      exec (.write e tag (t.code :: index :: bytes)) s = .next s' ∧
        s'.muted = (s.updStore fun st => { st with staged := staged }).muted ∧
        entryBytes staged t index = bytes ∧
        (∀ (other : TableId) (j : Byte), j.toNat < other.entries → other ≠ t ∨ j ≠ index →
          entryBytes staged other j = entryBytes s.store.staged other j) ∧
        Answered e nWrite tag rOk [t.code, index] s s'

/-- R57: a WRITE to LAW entry 0 with no take pending is answered IGNORED with the table code, the index 0
and the coefficient 0, whatever the two bytes written. -/
def Obligations.LawZeroWriteIsIgnored : Prop :=
  ∀ (e : Env) (tag hi lo : Byte) (s : State), badSender s e.sender = false → s.store.take = none → ∃ s',
    exec (.write e tag [0x02, 0, hi, lo]) s = .next s' ∧ s'.muted = s.muted ∧
      Answered e nWrite tag rIgnored [0x02, 0, 0, 0] s s'

/-- The refusals, none of which changes a table, the pending take or anything else but messages. Of WRITE (R54, R56,
R58) and TAKE (R64), in their order; of CANCEL, REVERT, READ (R59), RELEASE (R115), QUEUE (R135), CONTRIBUTOR (R143),
MASK (R164), STATUS (R165), COUNTERS (R166) and RESET (R167). That the data of a BAD_FIELD of the last four are the
field and item numbers alone is the model's choice (log 10), as is the order of the faults of one COUNTERS
(log 28). -/
def Obligations.RefusalsLeaveTables : Prop :=
  ∀ (e : Env) (tag : Byte) (s : State), badSender s e.sender = false →
  let refused (i : Instr) (name result : Byte) (data : List Byte) : Prop :=
    ∃ t, exec i s = .next t ∧ t.muted = s.muted ∧ Answered e name tag result data s t
  (∀ f : List Byte, f.length < 2 → refused (.write e tag f) nWrite rBadLength []) ∧
  (∀ (t : TableId) (index : Byte) (bytes : List Byte),
    let write (result : Byte) (data : List Byte) : Prop :=
      refused (.write e tag (t.code :: index :: bytes)) nWrite result data
    (∀ code, TableId.ofCode code = none →
      refused (.write e tag (code :: index :: bytes)) nWrite rBadTable [code]) ∧
    (t.entries ≤ index.toNat → write rOutOfRange [t.code, index]) ∧
    (index.toNat < t.entries → t.entryLength bytes ≠ some bytes.length → write rBadLength [t.code, index]) ∧
    (index.toNat < t.entries → t.entryLength bytes = some bytes.length → s.store.take ≠ none →
      write rTakePending [t.code, index]) ∧
    ∀ f, index.toNat < t.entries → t.entryLength bytes = some bytes.length → s.store.take = none →
      ¬ (t = .law ∧ index = 0) → replaceEntry s.store.staged t index bytes = .error f →
      write rBadField [t.code, index, byte f.field, byte f.item]) ∧
  (∀ (hi lo : Byte) (f : List Byte),
    let take (result : Byte) (data : List Byte) : Prop :=
      refused (.take e tag (hi :: lo :: f)) nTake result data
    (∀ g : List Byte, g.length ≠ 2 → g.length ≠ 8 → refused (.take e tag g) nTake rBadLength []) ∧
    (f.length = 0 ∨ f.length = 6 → of16 hi lo ≠ s.store.generation →
      take rGeneration (be16 s.store.generation)) ∧
    (f.length = 0 ∨ f.length = 6 → of16 hi lo = s.store.generation → ∀ p, s.store.take = some p →
      take rTakePending (match p with | .scheduled n _ => be48 n | .immediate _ _ _ _ => be48 0)) ∧
    (∀ a b c d x y, f = [a, b, c, d, x, y] → of16 hi lo = s.store.generation → s.store.take = none →
      s.clock.frame.toNat + 28800000 < (of48 a b c d x y).toNat → take rOutOfRange (be48 s.clock.frame)) ∧
    ∀ data, of16 hi lo = s.store.generation → s.store.take = none →
      validate s.unit s.store.staged = some data →
      f = [] ∨ (∃ a b c d x y, f = [a, b, c, d, x, y] ∧
        (of48 a b c d x y).toNat ≤ s.clock.frame.toNat + 28800000) → take rInvalid data) ∧
  (∀ x f, refused (.cancel e tag (x :: f)) nCancel rBadLength [] ∧
    refused (.revert e tag (x :: f)) nRevert rBadLength []) ∧
  (∀ f : List Byte,
    (f.length ≠ 3 → refused (.read e tag f) nRead rBadLength []) ∧
    (f.length ≠ 2 → refused (.release e tag f) nRelease rBadLength []) ∧
    (f.length ≠ 1 → refused (.queue e tag f) nQueue rBadLength []) ∧
    (f.length ≠ 7 → refused (.mask e tag f) nMask rBadLength []) ∧
    ∀ i : Instr,
      (messageOf i = some (e, kindRequest, nContributor :: tag :: f) → f.length ≠ 2 →
        refused i nContributor rBadLength []) ∧
      (messageOf i = some (e, kindRequest, nStatus :: tag :: f) → f.length ≠ 2 →
        refused i nStatus rBadLength []) ∧
      (messageOf i = some (e, kindRequest, nCounters :: tag :: f) → f.length ≠ 3 →
        refused i nCounters rBadLength []) ∧
      (messageOf i = some (e, kindRequest, nReset :: tag :: f) → f.length ≠ 1 →
        refused i nReset rBadLength [])) ∧
  (∀ code index selector : Byte,
    (TableId.ofCode code = none →
      refused (.read e tag [code, index, selector]) nRead rBadTable [code]) ∧
    (TableId.ofCode code ≠ none → 1 < selector.toNat →
      refused (.read e tag [code, index, selector]) nRead rBadField [code, index, 0, 0])) ∧
  (∀ panel key : Byte, 64 ≤ panel.toNat ∨ 32 ≤ key.toNat →
    refused (.release e tag [panel, key]) nRelease rOutOfRange [panel, key]) ∧
  (∀ (p : PanelIndex) (n : KeyNumber), keyAt s p n = none →
    refused (.release e tag [byte p.val, byte n.val]) nRelease rBadState [byte p.val, byte n.val]) ∧
  (∀ d : Byte, 128 ≤ d.toNat → refused (.queue e tag [d]) nQueue rOutOfRange [d]) ∧
  (∀ (i : Instr) (index action : Byte),
    messageOf i = some (e, kindRequest, [nContributor, tag, index, action]) →
    (8 ≤ index.toNat → refused i nContributor rOutOfRange [index, action]) ∧
    (index.toNat < 8 → 7 < action.toNat → refused i nContributor rBadField [index, 2, 0]) ∧
    ∀ c : ContribIndex, index = byte c.val → action.toNat ≤ 7 → s.live.contributors[c].inUse = false →
      refused i nContributor rBadState [index, 0]) ∧
  (∀ (i : Instr) (selector index : Byte), messageOf i = some (e, kindRequest, [nStatus, tag, selector, index]) →
    2 < selector.toNat → refused i nStatus rBadField [1, 0]) ∧
  (∀ index : Byte, (1 ≤ index.toNat → refused (.statusDevice e tag [0, index]) nStatus rOutOfRange [0, index]) ∧
    (128 ≤ index.toNat → refused (.statusDestination e tag [1, index]) nStatus rOutOfRange [1, index]) ∧
    (8 ≤ index.toNat → refused (.statusContributor e tag [2, index]) nStatus rOutOfRange [2, index])) ∧
  (∀ (i : Instr) (selector index clear : Byte),
    messageOf i = some (e, kindRequest, [nCounters, tag, selector, index, clear]) →
    (3 < selector.toNat → refused i nCounters rBadField [1, 0]) ∧
    (selector.toNat ≤ 3 → 1 < clear.toNat → refused i nCounters rBadField [3, 0])) ∧
  (∀ index clear : Byte, clear.toNat ≤ 1 →
    (8 ≤ index.toNat →
      refused (.countersPort e tag [0, index, clear]) nCounters rOutOfRange [0, index, clear] ∧
      refused (.countersContributor e tag [2, index, clear]) nCounters rOutOfRange [2, index, clear]) ∧
    (1 ≤ index.toNat →
      refused (.countersDevice e tag [1, index, clear]) nCounters rOutOfRange [1, index, clear]) ∧
    (128 ≤ index.toNat →
      refused (.countersDestination e tag [3, index, clear]) nCounters rOutOfRange [3, index, clear])) ∧
  ∀ form : Byte, 1 < form.toNat → refused (.resetFull e tag [form]) nReset rBadField [1, 0] ∧
    refused (.clearTalk e tag [form]) nReset rBadField [1, 0]

/-- READ (R59, R60): the entry of the copy selected, with the live generation; an index beyond the table
gives its zero-filled entry. Nothing changes but messages. -/
def Obligations.ReadReturnsEntry : Prop :=
  ∀ (e : Env) (tag index : Byte) (t : TableId) (live : Bool) (s : State), badSender s e.sender = false →
    let tables := if live then s.store.live else s.store.staged
    (∃ s', exec (.read e tag [t.code, index, yesNo live]) s = .next s' ∧ s'.muted = s.muted ∧
      Answered e nRead tag rOk
        ([t.code, index, yesNo live] ++ be16 s.store.generation ++ entryBytes tables t index) s s') ∧
    (t.entries ≤ index.toNat → entryBytes tables t index =
      List.replicate (match t with
        | .device => 12 | .law => 2 | .destination => 7 | .group => 1 | .panel => 5 | .key => 10
        | .contributor => 15) 0)

/-- TAKE (R64, R65): with the live generation quoted, no take pending, the horizon kept and the staged
tables valid, the take becomes pending. An immediate one is not answered: a request that is no broadcast changes
nothing else at all. A scheduled one is answered OK at once. -/
def Obligations.TakeIsAccepted : Prop :=
  ∀ (e : Env) (tag hi lo : Byte) (s : State), badSender s e.sender = false →
    of16 hi lo = s.store.generation → s.store.take = none → validate s.unit s.store.staged = none →
    (∃ s', exec (.take e tag [hi, lo]) s = .next s' ∧
      (let after := s.updStore fun st => { st with take := some (.immediate e.port e.sender nTake tag) };
      s'.muted = after.muted ∧ (e.broadcast = false → s' = after))) ∧
    ∀ a b c d f g : Byte, (of48 a b c d f g).toNat ≤ s.clock.frame.toNat + 28800000 → ∃ s',
      exec (.take e tag [hi, lo, a, b, c, d, f, g]) s = .next s' ∧
        s'.muted = (s.updStore fun st =>
          { st with take := some (.scheduled (of48 a b c d f g)
              (decide ((of48 a b c d f g).toNat ≤ s.clock.frame.toNat))) }).muted ∧
        Answered e nTake tag rOk ([a, b, c, d, f, g] ++ be16 (s.store.generation + 1)) s s'

/-- R70 to R73: staged tables that validate keep the cross-entry rules. -/
def Obligations.ValidTablesAreConsistent : Prop :=
  ∀ (unit : Byte) (t : Tables), validate unit t = none →
    (∀ p ∈ t.device.candidates, t.device.enabled[p] = true) ∧
    (∀ p, t.device.trunk = some p ∨ t.device.noticePort = some p → t.device.enabled[p] = true) ∧
    (∀ (d : Dest) (x : Source), t.destinations[d].exclude = some x →
      t.destinations[d].programme ≠ some x ∧ ∀ it ∈ t.destinations[d].mix, it.1 ≠ x) ∧
    (∀ i j : PanelIndex, i ≠ j → t.panels[i].inUse = true → t.panels[j].inUse = true →
      t.panels[i].address ≠ t.panels[j].address ∧ t.panels[i].mic ≠ t.panels[j].mic) ∧
    (∀ i : PanelIndex, t.panels[i].inUse = true → t.panels[i].address ≠ 0 ∧ t.panels[i].address ≠ 255 ∧
      t.panels[i].address ≠ unit) ∧
    (∀ k : KeyIndex, t.keys[k].inUse = true → panelInUse t t.keys[k].panel = true ∧
      (t.keys[k].kind = 0 → refuses t t.keys[k].target = false)) ∧
    (∀ i j : KeyIndex, i ≠ j → t.keys[i].inUse = true → t.keys[j].inUse = true →
      t.keys[i].panel = t.keys[j].panel → t.keys[i].number ≠ t.keys[j].number) ∧
    (∀ i j : ContribIndex, i ≠ j → t.contributors[i].inUse = true → t.contributors[j].inUse = true →
      t.contributors[i].ret ≠ t.contributors[j].ret ∧
        t.contributors[i].source ≠ t.contributors[j].source ∧
        (t.contributors[i].port = t.contributors[j].port →
          t.contributors[i].gateway ≠ t.contributors[j].gateway)) ∧
    ∀ i : ContribIndex, t.contributors[i].inUse = true → ∃ (d : Dest) (x : Source),
      t.contributors[i].ret.toNat = d.val ∧ t.contributors[i].source.toNat = x.val ∧
        t.destinations[d].exclude = some x

/-- TAKE_EXECUTE (R66, R67): an immediate take is due at every frame start, a scheduled one at its number
or, marked late, at every one. A take that is due at the coming frame start makes the staged tables
live, adds one to the generation, is no longer pending and raises a TAKE notice by the new routing; an immediate one
is answered OK with the new generation. A take that is not due, or none, is left. A take that changes no table, on a
clock at rest with the live candidates, changes nothing else but messages. A take that changes the notice port or
the notice address, both configured, then delivers every class that is pending and unmasked (R163). That the command
runs the take with the coming frame start's number, after what has fallen due (`settle s`), is the model's choice
(logs 4 and 15), and so is that the deliveries come after the TAKE notice (log 9). -/
def Obligations.TakeExecuteMakesStagedLive : Prop :=
  (∀ n : FrameNo, takeDue none n = false ∧ (∀ p a b c, takeDue (some (.immediate p a b c)) n = true) ∧
    ∀ f late, takeDue (some (.scheduled f late)) n = true ↔ late = true ∨ f = n) ∧
  ∀ s : State, let s₀ := settle s
    (takeDue s.store.take (s.clock.frame + 1) = true → ∃ t, exec .takeExecute s = .next t ∧
      (let g := s.store.generation + 1;
      t.store = { staged := s.store.staged, live := s.store.staged, generation := g, take := none } ∧
      Raised .take ⟨0, g.extractLsb' 8 8, g.extractLsb' 0 8⟩ (t.withFrame (s.clock.frame + 1)) t ∧
      ∀ port sender name tag, s.store.take = some (.immediate port sender name tag) → Kept port s t →
        t.ports[port].mode = .locked →
        replyEntry { port := port, broadcast := false, sender := sender } name tag rOk (be16 g) s ∈
          t.ports[port].egress) ∧
      t.clock.frame = s.clock.frame ∧ t.clock.period = s₀.clock.period ∧ t.unit = s.unit ∧
      (s.store.staged = s.store.live → PanelsTold s₀ →
        (s.live.device.candidates = [] → s₀.clock.mode = .free) →
        (s.live.device.candidates ≠ [] → ∀ p, s₀.clock.reference = some p →
          p ∈ s.live.device.candidates ∧ s.live.device.enabled[p] = true) →
        t.muted = (s₀.updStore fun st =>
          { st with generation := st.generation + 1, take := none }).muted) ∧
      (let old := s.store.live.device;
      let new := s.store.staged.device;
      let g := s.store.generation + 1;
      let n := s₀.withFrame (s.clock.frame + 1);
      ∀ (p : Port) (a : Byte), new.noticePort = some p → new.noticeAddress = some a →
        old.noticePort ≠ some p ∨ old.noticeAddress ≠ some a →
        (hasRoom t p = true →
          (∀ k : NoticeClass, t.notices[k.code].mask = false → t.notices[k.code].latest ≠ none →
            t.notices[k.code].pending = false) ∧
          ∀ (k : NoticeClass) (d : Detail), k = .call ∨ k = .clip → s₀.notices[k.code].mask = false →
            s₀.notices[k.code].pending = true → t.notices[k.code].latest = some d →
            noticeEntry n a k d ∈ t.ports[p].egress) ∧
        (s₀.ports[p].mode = .locked → s₀.ports[p].egress.length ≤ 8 →
          (∃ f late, s.store.take = some (.scheduled f late)) → PanelsTold s₀ →
          s.store.staged =
            { s.store.live with device := { old with noticePort := some p, noticeAddress := some a } } →
          (old.candidates = [] → s₀.clock.mode = .free) →
          (old.candidates ≠ [] → ∀ r, s₀.clock.reference = some r → r ∈ old.candidates ∧ old.enabled[r] = true) →
          ∀ q : Port, t.ports[q].egress = s₀.ports[q].egress ++
            if q = p then
              (if s₀.notices[NoticeClass.take.code].mask = true then []
                else [noticeEntry n a .take ⟨0, g.extractLsb' 8 8, g.extractLsb' 0 8⟩]) ++
              deliveries (fun k => decide (k ≠ .take)) n a
            else []))) ∧
    (takeDue s.store.take (s.clock.frame + 1) = false → exec .takeExecute s = .next s)

/-- What an executed take does, from `settle s` (logs 4 and 15), by the tables that it makes live.
R76, R77, R97, R98: to a destination whose entry it changes, and to one whose entry it leaves. R76, R109: a key whose
KEY entry or whose panel's entry it changes is UP, with no talk and no refusal; a talk whose group alone it changes
ends, its key DOWN_SPENT if it was DOWN and its port is not then disabled. R132: the newly excluded source has no
claim on the destination, and the lane in which it was ACTIVE, with nobody waiting, is FREE at 0. R133: a destination
that newly refuses talk has no claim. R78, R154: a context whose entry it changes in its link is DOWN, with a notice
and CLOSE to the old gateway, its tolerance, ident, counters and loss mark kept; one whose entry it leaves keeps its
state, but for a wake on talk; the calling mark of an entry put out of use is cleared. R9A, R75: a port that it disables
or enables is DISABLED or ACQUIRING, with a notice; an ABORT that it owes stays owed (R8; for a LOCKED port DEDUCED,
log 30). R17, R18, R75: the clock leaves a reference that is no candidate, or disabled, and without candidates is
FREE. -/
def Obligations.TakeEffects : Prop :=
  ∀ s : State, let s₀ := settle s; takeDue s.store.take (s.clock.frame + 1) = true → ∃ t,
    exec .takeExecute s = .next t ∧
    let old := s.store.live
    let new := s.store.staged
    let told (k : NoticeClass) (d : Detail) : Prop := Told k d (t.withFrame (s.clock.frame + 1)) t
    (∀ d : Dest,
      let o := old.destinations[d]
      let e := new.destinations[d]
      (o ≠ e → t.mix[d].peak = 0 ∧ t.mix[d].clipFlag = s₀.mix[d].clipFlag ∧
        t.mix[d].clipCount = s₀.mix[d].clipCount ∧ t.mix[d].dim = s₀.mix[d].dim ∧
        t.mix[d].programme = (if o.programme = e.programme then s₀.mix[d].programme else 0) ∧
        t.mix[d].slots = reconcile e.exclude e.mix s₀.mix[d].slots ∧
        t.talk.dests[d].master =
          (if o.defaultMaster = e.defaultMaster then s₀.talk.dests[d].master else e.defaultMaster)) ∧
      (o = e → t.mix[d].slots = s₀.mix[d].slots ∧ t.mix[d].programme = s₀.mix[d].programme ∧
        t.mix[d].dim = s₀.mix[d].dim ∧ t.mix[d].peak = s₀.mix[d].peak ∧
        t.talk.dests[d].master = s₀.talk.dests[d].master) ∧
      (∀ x : Source, o ≠ e → e.exclude = some x → TalkOrdered s₀ →
        findClaim t.talk.dests[d] x = none ∧
        ∀ (l : LaneNo) (c : Claim), s₀.talk.dests[d].lanes[l] = .active c → c.talker = x →
          s₀.talk.dests[d].queue = [] → t.talk.dests[d].lanes[l] = .free ∧
            t.mix[d].lanes[l] = { source := none, applied := 0, drained := false }) ∧
      (o.refuse = false → e.refuse = true → t.talk.dests[d].queue = [] ∧
        ∀ l : LaneNo, t.talk.dests[d].lanes[l].occupant = none)) ∧
    (∀ k : KeyIndex,
      ((old.keys[k].inUse = true ∨ new.keys[k].inUse = true) ∧ old.keys[k] ≠ new.keys[k] ∨
        (∃ p, panelOf old.keys[k].panel = some p ∧ (old.panels[p].inUse = true ∨ new.panels[p].inUse = true) ∧
          old.panels[p] ≠ new.panels[p]) →
        t.talk.keys[k] = { pos := .up, refused := false, talk := none }) ∧
      (∀ g, old.keys[k] = new.keys[k] → old.panels = new.panels → old.keys[k].kind = 1 →
        groupOf old.keys[k].target = some g → old.groups[g] ≠ new.groups[g] →
        s₀.talk.keys[k].talk ≠ none → t.talk.keys[k].talk = none ∧
          ((∀ p : Port, keyPort t k = some p → new.device.enabled[p] = true) →
            t.talk.keys[k].pos =
              if s₀.talk.keys[k].pos = .down then .downSpent else s₀.talk.keys[k].pos))) ∧
    (∀ c : ContribIndex,
      (linkChanged old new c = true → s₀.contexts[c].state ≠ .down →
        t.contexts[c].state = .down ∧ t.contexts[c].lastReply = none ∧
        t.contexts[c].average = none ∧ t.contexts[c].callPending = false ∧
        t.contexts[c].tolerance = s₀.contexts[c].tolerance ∧ t.contexts[c].ident = s₀.contexts[c].ident ∧
        t.contexts[c].pageErrors = s₀.contexts[c].pageErrors ∧
        t.contexts[c].losses = s₀.contexts[c].losses ∧ t.contexts[c].lossMark = s₀.contexts[c].lossMark ∧
        told .contributor ⟨byte c.val, 0, 0⟩ ∧
        ∀ q : Port, portOf old.contributors[c].port = some q → Kept q s t → t.ports[q].mode = .locked →
          pageEntry old.contributors[c] [8] s ∈ t.ports[q].egress) ∧
      (linkChanged old new c = false → s₀.contexts[c].state ≠ .dormant →
        t.contexts[c] = s₀.contexts[c]) ∧
      (old.contributors[c].inUse = true → new.contributors[c].inUse = false → t.talk.calling[c] = false)) ∧
    (∀ p : Port,
      let q := t.ports[p]
      (old.device.enabled[p] = true → new.device.enabled[p] = false →
        q.mode = .disabled ∧ q.aligned = false ∧ q.goodRun = 0 ∧ q.slip = [] ∧ q.primed = false ∧
        q.lastRead = silence ∧ q.lastPushed = silence ∧ q.assembly = none ∧ q.egress = [] ∧
        q.qualification = 0 ∧ q.abortOwed = s₀.ports[p].abortOwed ∧
        q.fragments = (if s₀.ports[p].assembly.isSome then bump s₀.ports[p].fragments
          else s₀.ports[p].fragments) ∧
        told .port ⟨byte p.val, 0, 0⟩ ∧
        ∀ k : KeyIndex, keyPort t k = some p →
          t.talk.keys[k].talk = none ∧ t.talk.keys[k].pos = .up ∧ t.talk.keys[k].refused = false) ∧
      (old.device.enabled[p] = false → new.device.enabled[p] = true →
        q.mode = .acquiring ∧ q.aligned = false ∧ q.goodRun = 0 ∧ q.abortOwed = s₀.ports[p].abortOwed ∧
        told .port ⟨byte p.val, 1, 0⟩) ∧
      (old.device.enabled[p] = new.device.enabled[p] → q.mode = s₀.ports[p].mode)) ∧
    (new.device.candidates = [] → t.clock.mode = .free ∧ (s₀.clock.mode ≠ .free →
      t.clock.reference = none ∧ t.clock.window = none ∧ told .clock ⟨0, 255, 0⟩)) ∧
    (new.device.candidates ≠ [] → ∀ p, s₀.clock.reference = some p →
      (p ∈ new.device.candidates → new.device.enabled[p] = true →
        t.clock.reference = some p ∧ t.clock.mode = s₀.clock.mode) ∧
      (p ∉ new.device.candidates ∨ new.device.enabled[p] = false →
        t.clock.reference = firstQualified t ∧ t.clock.window = none ∧
        t.clock.mode = (if (firstQualified t).isSome then .locked else .holdover) ∧
        told .clock ⟨if (firstQualified t).isSome then 1 else 2, optByte (firstQualified t), 0⟩))

/-- CANCEL (R68): the pending take is dropped, the tables are left; the answer is OK with the cancelled at-frame, an
immediate TAKE is first answered IGNORED with the live generation, and a TAKE notice is raised; with none pending
nothing changes; fields after the tag are refused. REVERT (R69): with no take pending the staged tables become equal
to the live ones; with a take pending it is refused; fields after the tag are refused. -/
def Obligations.CancelAndRevert : Prop :=
  ∀ (e : Env) (tag : Byte) (s : State), badSender s e.sender = false →
    (∀ p, s.store.take = some p → ∃ t, exec (.cancel e tag []) s = .next t ∧
      t.muted = (s.updStore fun st => { st with take := none }).muted ∧
      (let g := s.store.generation;
      let done := replyEntry e nCancel tag rOk
        (match p with | .scheduled f _ => be48 f | .immediate _ _ _ _ => be48 0) s;
      Raised .take ⟨1, g.extractLsb' 8 8, g.extractLsb' 0 8⟩ s t ∧
      (Kept e.port s t → done ∈ t.ports[e.port].egress) ∧
      ∀ port sender name first, p = .immediate port sender name first →
        let ignored :=
          replyEntry { port := port, broadcast := false, sender := sender } name first rIgnored (be16 g) s
        Kept port s t → ignored ∈ t.ports[port].egress ∧
          (port = e.port → ∃ x y z, t.ports[port].egress = x ++ ignored :: y ++ done :: z))) ∧
    (s.store.take = none → ∃ t, exec (.cancel e tag []) s = .next t ∧ t.muted = s.muted ∧
      Answered e nCancel tag rNoTake [] s t) ∧
    (∀ x f, ∃ t, exec (.cancel e tag (x :: f)) s = .next t ∧ t.muted = s.muted ∧
      Answered e nCancel tag rBadLength [] s t) ∧
    (s.store.take = none → ∃ t, exec (.revert e tag []) s = .next t ∧
      t.muted = (s.updStore fun st => { st with staged := st.live }).muted ∧
      Answered e nRevert tag rOk (be16 s.store.generation) s t) ∧
    (∀ p, s.store.take = some p → ∃ t, exec (.revert e tag []) s = .next t ∧ t.muted = s.muted ∧
      Answered e nRevert tag rTakePending (atFrameBytes (some p)) s t) ∧
    ∀ x f, ∃ t, exec (.revert e tag (x :: f)) s = .next t ∧ t.muted = s.muted ∧
      Answered e nRevert tag rBadLength [] s t

/-! ### Mix engine -/

/-- R90: a slew step moves toward the target by at most 256 and never past it; n steps settle a
coefficient no further than 256 n from its target. -/
def Obligations.SlewReachesTarget : Prop :=
  ∀ applied target : Nat,
    (applied ≤ target → slew applied target = min (applied + 256) target) ∧
    (target ≤ applied → slew applied target = max (applied - 256) target) ∧
    (∀ greatest, applied ≤ greatest → target ≤ greatest → slew applied target ≤ greatest) ∧
    ∀ n, applied ≤ target + 256 * n → target ≤ applied + 256 * n →
      (List.range n).foldl (fun a _ => slew a target) applied = target

/-- R79, R80: a source reads 0 unless its port is LOCKED and primed, and while it is the voice of a
contributor that is neither ACTIVE nor in LINECHECK; otherwise it is its channel of the last frame read.
R94: rounding by 16384 is to the nearest, exact halves away from zero. Then what a frame start makes of one
destination: every coefficient slews (R90) to its target (R82 to R87, R159), a fade that ends leaves its slot EMPTY or
reports its lane drained (R91); the sum of the slots, the lanes, the check and the programme with its effective
coefficient (R93) is rounded, scaled by the master, rounded and clamped, a clamp counted and flagged (R95), and the
meter follows (R96). A first clamp raises a CLIP notice. -/
def Obligations.OutputIsRoundedClampedSum : Prop :=
  (∀ (s : State) (p : Port) (c : Fin 16),
    let x : Source := ⟨p.val * 16 + c.val, by omega⟩
    (s.ports[p].mode ≠ .locked ∨ s.ports[p].primed = false → sampleOf s x = 0) ∧
    (∀ i, contributorOfSource s x = some i → s.contexts[i].state ≠ .active →
      s.contexts[i].state ≠ .linecheck → sampleOf s x = 0) ∧
    (s.ports[p].mode = .locked → s.ports[p].primed = true →
      (contributorOfSource s x = none ∨ ∃ i, contributorOfSource s x = some i ∧
        (s.contexts[i].state = .active ∨ s.contexts[i].state = .linecheck)) →
      sampleOf s x = (s.ports[p].lastRead[c]).toInt)) ∧
  (∀ v : Int, 2 * (v - 16384 * roundHalfAway v).natAbs ≤ 16384 ∧
    (2 * (v - 16384 * roundHalfAway v).natAbs = 16384 → v.natAbs < 16384 * (roundHalfAway v).natAbs)) ∧
  ∀ (s : State) (d : Dest),
    let m := s.mix[d]
    let o := mixDest s d
    let entry := s.live.destinations[d]
    let arb := s.talk.dests[d]
    let law (code : Byte) : Nat := (s.live.law[code.toFin]).toNat
    let link : Option Context := (contributorOfReturn s d).map fun c => s.contexts[c]
    let checking : Prop := ∃ x, link = some x ∧ x.state = .linecheck
    (∀ i : SlotNo,
      let old := m.slots[i]
      (old.state = .empty → o.slots[i] = old) ∧
      (old.state = .fading → o.slots[i] =
        if slew old.applied 0 = 0 then { state := .empty, source := none, applied := 0 }
        else { old with applied := slew old.applied 0 }) ∧
      ∀ x, old.state = .configured → old.source = some x →
        (checking → o.slots[i] = { old with applied := slew old.applied 0 }) ∧
        ∀ gain ahead behind, ¬ checking → entry.mix = ahead ++ (x, gain) :: behind →
          (∀ it ∈ ahead, it.1 ≠ x) → o.slots[i] = { old with applied := slew old.applied (law gain) }) ∧
    (let shut : Prop := ∃ x, link = some x ∧
      (x.state = .linecheck ∨ x.returnMode = .talkbackOnly ∨ x.longDelay = true);
    (shut → o.programme = slew m.programme 0) ∧
      (¬ shut → o.programme = slew m.programme (law entry.programmeCode))) ∧
    (let interrupted : Prop := ∃ (l : LaneNo) (c : Claim), arb.lanes[l] = .active c ∧ c.interrupt = true;
    (interrupted → o.dim = slew m.dim (min (law entry.dimCode) 16384)) ∧
      (¬ interrupted → o.dim = slew m.dim 16384)) ∧
    (∀ l : LaneNo,
      let old := m.lanes[l]
      (∀ c, arb.lanes[l] = .active c →
        (checking → o.lanes[l] = { old with applied := slew old.applied 0 }) ∧
        (¬ checking → o.lanes[l] = { old with applied := slew old.applied (law c.gain) })) ∧
      (∀ b, arb.lanes[l] = .releasing b → o.lanes[l] =
        { old with
          applied := slew old.applied 0, drained := old.drained || decide (slew old.applied 0 = 0) }) ∧
      (arb.lanes[l] = .free → o.lanes[l] = { old with applied := slew old.applied 0 })) ∧
    (checking → o.check = slew m.check 16384) ∧ (¬ checking → o.check = slew m.check 0) ∧
    (let away : Prop := ∃ x, link = some x ∧ x.state ≠ .active ∧ x.state ≠ .standby ∧ x.state ≠ .linecheck;
    (away → o.master = slew m.master 0) ∧ (¬ away → o.master = slew m.master (law arb.master))) ∧
    (∀ checked : Option Source, (¬ checking → checked = none) →
      (∀ c, checking → contributorOfReturn s d = some c →
        checked = sourceOf s.live.contributors[c].source) →
      let value (x : Option Source) : Int :=
        match x with
        | some x => sampleOf s x
        | none => 0
      let sum : Int :=
        ((List.finRange 16).map fun i : SlotNo => value o.slots[i].source * (o.slots[i].applied : Int)).sum +
        ((List.finRange 4).map fun l : LaneNo => value o.lanes[l].source * (o.lanes[l].applied : Int)).sum +
        value checked * (o.check : Int) +
        value entry.programme * (((o.programme * o.dim + 8192) / 16384 : Nat) : Int)
      let r := roundHalfAway (roundHalfAway sum * (o.master : Int))
      (-8388608 ≤ r → r ≤ 8388607 → o.output.toInt = r ∧ o.clipFlag = m.clipFlag ∧
        o.clipCount = m.clipCount) ∧
      (8388607 < r → o.output.toInt = 8388607 ∧ o.clipFlag = true ∧ o.clipCount = bump m.clipCount) ∧
      (r < -8388608 → o.output.toInt = -8388608 ∧ o.clipFlag = true ∧ o.clipCount = bump m.clipCount)) ∧
    o.peak = max m.peak o.output.toInt.natAbs ∧
    (mixAll s).mix[d] = o ∧
    (o.clipFlag = true → m.clipFlag = false → Told .clip ⟨byte d.val, 0, 0⟩ s (mixAll s))

/-- R97: after a reconciliation every source of the new list has one CONFIGURED slot, no other source has
one, no slot holds the exclude source, and a source that kept its slot kept its coefficient. -/
def Obligations.ReconcileFollowsNewList : Prop :=
  ∀ (exclude : Option Source) (mix : List (Source × Byte)) (slots : Vector Slot 16),
    mix.length ≤ 12 → (mix.map Prod.fst).Nodup → (∀ it ∈ mix, some it.1 ≠ exclude) →
    (∀ i : SlotNo, slots[i].state = .empty ↔ slots[i].source = none) →
    (∀ i j : SlotNo, slots[i].source ≠ none → slots[i].source = slots[j].source → i = j) →
    let after := reconcile exclude mix slots
    (∀ it ∈ mix, ∃ i : SlotNo, after[i].state = .configured ∧ after[i].source = some it.1) ∧
    (∀ i : SlotNo, after[i].state = .configured → ∃ it ∈ mix, after[i].source = some it.1) ∧
    (∀ i : SlotNo, after[i].source ≠ none → after[i].source ≠ exclude) ∧
    (∀ i j : SlotNo, after[i].source ≠ none → after[i].source = after[j].source → i = j) ∧
    ∀ (i : SlotNo) (x : Source) (g : Byte), slots[i].source = some x → (x, g) ∈ mix →
      after[i] = { slots[i] with state := .configured }

/-! ### Talk keys, lanes and wait queues -/

/-- KEY_DOWN. R103, R104, R119, R123, R146: a press of an idle key, whose target is a destination or a group, begins a
talk where a target takes it: on each target that does not refuse the talker, of those on each of which a lane is FREE
and the talker has no claim, one claim ACTIVE in the lowest-numbered FREE lane, its voice rising from 0; a dormant
contributor that wakes on talk is woken; the tally is TALKING, ABSENT or PARTLY as the destinations are present. With
64 talks, or every target refusing the talker, the press is refused and the tally is BUSY. R106: a repeat is ignored.
R112: a press of a position that shows a call clears its marks and the pending calls they stand for, recomputes its
tally, and is then a press like any other. R102: a position with no KEY entry and no call is counted, and so is a KEY
payload, of a DOWN or of an UP, that has not the right form. Where the tables are valid the TALLYs and LISTENs of the
changes wait for their panels. -/
def Obligations.KeyDownBeginsTalk : Prop :=
  ∀ (e : Env) (n : KeyNumber) (p : PanelIndex) (s : State),
    badSender s e.sender = false → panelHeard s e = some p →
    let press : Instr := .keyDown e [byte n.val, 1]
    (∀ (k : KeyIndex) (ds : List Dest) (x : Source), callsAt s p n = [] → keyAt s p n = some k →
      s.talk.keys[k] = { pos := .up, refused := false, talk := none } →
      (s.live.keys[k].kind = 0 ∧ ∃ d, destOf s.live.keys[k].target = some d ∧ ds = [d]) ∨
        (s.live.keys[k].kind = 1 ∧ ∃ g, groupOf s.live.keys[k].target = some g ∧ ds = s.live.groups[g]) →
      talkerOf s s.live.keys[k] = some x →
      let takes (d : Dest) : Bool :=
        !s.live.destinations[d].refuse && s.live.destinations[d].exclude != some x
      let key := s.live.keys[k]
      let latched := key.mode = 1
      let ref : Ref := { key := k, priority := key.priority.toNat, interrupt := key.interrupt == 1, gain := key.gain }
      (∀ lane : Dest → LaneNo, talkCount s < 64 → ds.Nodup → ds.any takes = true →
        (∀ d ∈ ds, takes d = true → findClaim s.talk.dests[d] x = none ∧
          s.talk.dests[d].lanes[lane d] = .free ∧
          ∀ j : LaneNo, j < lane d → s.talk.dests[d].lanes[j] ≠ .free) → ∃ t, exec press s = .next t ∧
        t.talk.keys = s.talk.keys.set k
          { pos := .down, refused := false
            talk := some
              { state := if key.mode = 0 then .held else if latched then .latched else .autoUndecided
                press := s.now, latch := if latched then some s.now else none
                claims := (ds.filter takes).map fun d => ⟨x, d⟩ } } ∧
        (∀ d : Dest, d ∈ ds → takes d = true →
          t.talk.dests[d].quiet =
            { s.talk.dests[d].quiet with
              lanes := s.talk.dests[d].lanes.set (lane d) (.active
                { talker := x, refs := [ref], priority := ref.priority, interrupt := ref.interrupt
                  gain := ref.gain, occupancy := s.now }) } ∧
          t.mix[d] =
            { s.mix[d] with
              lanes := s.mix[d].lanes.set (lane d) { source := some x, applied := 0, drained := false } }) ∧
        (∀ d : Dest, d ∉ ds ∨ takes d = false →
          t.talk.dests[d].quiet = s.talk.dests[d].quiet ∧ t.mix[d] = s.mix[d]) ∧
        (∀ c : ContribIndex,
          let wakes : Prop := s.contexts[c].state = .dormant ∧ s.live.contributors[c].wakeOnTalk = 1 ∧
            ∃ d ∈ ds, takes d = true ∧ contributorOfReturn s d = some c
          (wakes → t.contexts[c] = s.contexts[c].woken s.now ∧ PageSent c [11] s t ∧
            Told .contributor ⟨byte c.val, 5, 0⟩ s t) ∧
          (¬ wakes → t.contexts[c] = s.contexts[c])) ∧
        t.talk.calling = s.talk.calling ∧ t.base = s.base ∧
        (let gone (d : Dest) : Bool := destAbsent s d;
        let heard := ds.filter takes;
        lastTally t p n = if heard.all fun d => !gone d then .talking else if heard.all gone then .absent
          else .partly) ∧
        (TablesValid s → PanelsHear s t)) ∧
      (64 ≤ talkCount s ∨ (∀ d ∈ ds, takes d = false) →
        ∃ t, exec press s = .next t ∧
          KeyStep k { pos := .down, refused := true, talk := none } s t ∧ lastTally t p n = .busy ∧
          (TablesValid s → PanelsHear s t))) ∧
    (∀ k : KeyIndex, callsAt s p n = [] → keyAt s p n = some k →
      s.talk.keys[k].pos ≠ .up ∨ (∃ t₀, s.talk.keys[k].talk = some t₀ ∧ t₀.state ≠ .latched) →
      ∃ t, exec press s = .next t ∧ KeyStep k s.talk.keys[k] s t) ∧
    (callsAt s p n = [] → keyAt s p n = none → ∃ t, exec press s = .next t ∧
      t.muted = (s.updCounters fun c => { c with unknownKeys := bump c.unknownKeys }).muted) ∧
    (∀ b : List Byte, b.length ≠ 2 ∨ (∃ key action : Byte, b = [key, action] ∧ (31 < key.toNat ∨ 1 < action.toNat)) →
      ∀ i ∈ [Instr.keyDown e b, Instr.keyUp e b], ∃ t, exec i s = .next t ∧
        t.muted = (s.updCounters fun c => { c with malformedPanel := bump c.malformedPanel }).muted) ∧
    (callsAt s p n ≠ [] →
      let answered (t : State) : Prop := t.unlinked = s.unlinked ∧
        (∀ c : ContribIndex,
          t.talk.calling[c] = (s.talk.calling[c] && !decide (c ∈ callsAt s p n)) ∧
          t.contexts[c] =
            if c ∈ callsAt s p n then { s.contexts[c] with callPending := false } else s.contexts[c]) ∧
        lastTally t p n = displayed t p n ∧
        (∀ (i : PanelIndex) (m : KeyNumber), (i, m) ≠ (p, n) → lastTally t i m = lastTally s i m) ∧
        (TablesValid s → PanelsHear s t)
      (keyAt s p n = none → ∃ t, exec press s = .next t ∧ answered t) ∧
      (∀ k, keyAt s p n = some k → e.broadcast = false → ∃ s', answered s' ∧ callsAt s' p n = [] ∧
        exec press s = exec press s'))

/-- The end of a talk with one claim (R126, R108). A claim that loses its last reference leaves its place: a lane becomes
or stays RELEASING, and the head of the wait queue is bound to it (R127), or no claim where nobody waits. A claim that
keeps a reference is derived again (R119): an occupant keeps its lane unless the head of the queue is now above it, which
then demotes in (R129); a waiting claim whose priority falls is reinserted (R130). KEY_UP of a HELD talk leaves the key UP; KEY_DOWN on a LATCHED
talk whose key is UP leaves it DOWN_SPENT (R106); RELEASE (R115) and LATCH_TIMEOUT (R107) leave an UP key
UP and a DOWN key DOWN_SPENT (R109), and RELEASE answers OK with the talk's state. That this answer stands behind
the TALLYs and LISTENs of the release is the model's choice (log 8). Where the tables are valid these wait for their
panels. -/
def Obligations.TalkEndsFreesLane : Prop :=
  ∀ (e : Env) (p : PanelIndex) (n : KeyNumber) (k : KeyIndex) (t₀ : Talk) (d : Dest) (x : Source)
    (place : Place) (c : Claim) (s : State),
    badSender s e.sender = false → keyAt s p n = some k → s.talk.keys[k].talk = some t₀ →
    t₀.claims = [⟨x, d⟩] → findClaim s.talk.dests[d] x = some (place, c) →
    let a := s.talk.dests[d]
    let refs := c.refs.filter fun r => r.key != k
    ∀ left : Arbitration,
    (refs = [] ∧ left = a.removed place x s.now ∨
      refs ≠ [] ∧ a.Ordered ∧ a.queue.length ≤ 8 ∧ left = a.fallen place c (c.derive refs) s.now) →
    (panelHeard s e = some p → s.talk.keys[k].pos = .down → t₀.state = .held → ∃ t,
      exec (.keyUp e [byte n.val, 0]) s = .next t ∧
        TalkEnds k { s.talk.keys[k] with pos := .up, talk := none } d left s t ∧ (TablesValid s → PanelsHear s t)) ∧
    (panelHeard s e = some p → callsAt s p n = [] → s.talk.keys[k].pos = .up → t₀.state = .latched → ∃ t,
      exec (.keyDown e [byte n.val, 1]) s = .next t ∧
        TalkEnds k { s.talk.keys[k] with pos := .downSpent, talk := none } d left s t ∧
        (TablesValid s → PanelsHear s t)) ∧
    (let run : KeyRun :=
      { s.talk.keys[k] with
        pos := if s.talk.keys[k].pos = .down then .downSpent else s.talk.keys[k].pos, talk := none };
    (∀ tag : Byte, ∃ t, exec (.release e tag [byte p.val, byte n.val]) s = .next t ∧
      TalkEnds k run d left s t ∧ (TablesValid s → PanelsHear s t) ∧
      AnsweredLast e nRelease tag rOk
        [byte p.val, byte n.val,
         match t₀.state with | .held => 0 | .autoUndecided => 1 | .latched => 2] s t) ∧
    ∀ f : FrameNo, t₀.state = .latched → t₀.latch = some f → s.live.keys[k].timeout ≠ 0 →
      s.live.keys[k].timeout.toNat * 48000 ≤ s.since f → ∃ t,
      exec (.latchTimeout k) s = .next t ∧ TalkEnds k run d left s t ∧ (TablesValid s → PanelsHear s t))

/-- Events that move no claim. KEY_UP (R105): an AUTO_UNDECIDED talk becomes LATCHED; a LATCHED talk's key is
UP; a refused press ends with its tally IDLE; a spent press ends; a repeat is ignored. AUTO_THRESHOLD
(R107): after 12,000 frames an AUTO_UNDECIDED talk becomes HELD, and not before. LEVEL (R114) sets the
master code of the panel's listen destination, nothing where it listens to none, and a payload that is
not one byte is counted. RELEASE of a key without a talk is refused (R115). That an AUTO_THRESHOLD sent before its
moment has no effect is the model's choice (log 14). -/
def Obligations.PanelEventsThatMoveNoClaim : Prop :=
  ∀ (e : Env) (p : PanelIndex) (s : State), badSender s e.sender = false → panelHeard s e = some p →
    (∀ (n : KeyNumber) (k : KeyIndex), keyAt s p n = some k →
      let r := s.talk.keys[k]
      let up := exec (.keyUp e [byte n.val, 0]) s
      (∀ t₀, r.pos = .down → r.talk = some t₀ → t₀.state = .autoUndecided → ∃ t, up = .next t ∧
        KeyStep k { r with pos := .up, talk := some { t₀ with state := .latched, latch := some s.now } }
          s t) ∧
      (∀ t₀, r.pos = .down → r.talk = some t₀ → t₀.state = .latched → ∃ t, up = .next t ∧
        KeyStep k { r with pos := .up } s t) ∧
      (r.pos = .down → r.talk = none → showsCalling s p n = false → ∃ t, up = .next t ∧
        KeyStep k { pos := .up, refused := false, talk := none } s t ∧ lastTally t p n = .idle) ∧
      (r.pos = .downSpent ∨ r.pos = .up → ∃ t, up = .next t ∧ KeyStep k { r with pos := .up } s t) ∧
      (∀ t₀, r.talk = some t₀ → t₀.state = .autoUndecided →
        (12000 ≤ s.since t₀.press → exec (.autoThreshold k) s =
          .next (s.updKey k fun r => { r with talk := some { t₀ with state := .held } })) ∧
        (s.since t₀.press < 12000 → exec (.autoThreshold k) s = .next s)) ∧
      ∀ tag : Byte, r.talk = none → ∃ t, exec (.release e tag [byte p.val, byte n.val]) s = .next t ∧
        t.muted = s.muted ∧ Answered e nRelease tag rBadState [byte p.val, byte n.val] s t) ∧
    (∀ (code : Byte) (d : Dest), destOf s.live.panels[p].listen = some d → ∃ t,
      exec (.level e [code]) s = .next t ∧
        t.muted = (s.updDest d fun a => { a with master := code }).muted) ∧
    (∀ code : Byte, s.live.panels[p].listen = 255 → ∃ t,
      exec (.level e [code]) s = .next t ∧ t.muted = s.muted) ∧
    ∀ b : List Byte, b.length ≠ 1 → ∃ t, exec (.level e b) s = .next t ∧
      t.muted = (s.updCounters fun c => { c with malformedPanel := bump c.malformedPanel }).muted

/-- R123 to R125: where a new claim goes. The lowest-numbered FREE lane; else, bound, the RELEASING lane
without a bound claim whose coefficient is lowest; else it preempts the occupant of lowest priority, latest
occupancy and highest lane, if that priority is below its own, and the occupant waits ahead of every claim
not above it, a full queue dropping its last claim, if that is below the occupant, or the occupant itself; else it
waits behind every claim not below it; a full queue drops its last claim for one of higher priority, or refuses it. A
talk loses the claim that is dropped, and ends with its last. R120: a talk of a talker who holds a claim there joins
it, with its reference last, the greatest priority, any interrupt and the gain of the first reference of that
priority; a claim with 4 references is not joined. A waiting claim that a join raises is placed again (R130). -/
def Obligations.PlacementOrder : Prop :=
  (∀ (d : Dest) (c : Claim) (s : State),
    let a := s.talk.dests[d]
    let r := placeNew d c s
    let after := r.1.talk.dests[d]
    let c' := { c with occupancy := s.now }
    let lost (o : Claim) : Prop := ∀ (k : KeyIndex) (t₀ : Talk), s.talk.keys[k].talk = some t₀ →
      (∃ ref ∈ o.refs, ref.key = k) →
      let rest := t₀.claims.filter fun i => i != ⟨o.talker, d⟩
      r.1.talk.keys[k].talk = if rest = [] then none else some { t₀ with claims := rest }
    (∀ l : LaneNo, a.lanes[l] = .free → (∀ j : LaneNo, j < l → a.lanes[j] ≠ .free) →
      r.2 = true ∧ after = { a with lanes := a.lanes.set l (.active c') }) ∧
    (∀ l : LaneNo, (∀ j : LaneNo, a.lanes[j] ≠ .free) → a.lanes[l] = .releasing none →
      (∀ j : LaneNo, a.lanes[j] = .releasing none → j ≠ l →
        s.mix[d].lanes[l].applied < s.mix[d].lanes[j].applied ∨
          (s.mix[d].lanes[l].applied = s.mix[d].lanes[j].applied ∧ l < j)) →
      r.2 = true ∧ after = { a with lanes := a.lanes.set l (.releasing (some c')) } ∧ r.1.mix = s.mix) ∧
    ((∀ l : LaneNo, a.lanes[l].occupant ≠ none) → a.queue.Pairwise (fun x y => y.priority ≤ x.priority) →
      (∀ (l : LaneNo) (o : Claim), a.lanes[l].occupant = some o → o.priority < c.priority →
        (∀ (j : LaneNo) (x : Claim), a.lanes[j].occupant = some x → j ≠ l →
          o.priority < x.priority ∨ (o.priority = x.priority ∧
            (x.occupancy.toNat < o.occupancy.toNat ∨ (x.occupancy = o.occupancy ∧ j < l)))) →
        let returned (kept : List Claim) : Prop := ∃ ahead behind, kept = ahead ++ behind ∧
          after.queue = ahead ++ o :: behind ∧ (∀ x ∈ ahead, o.priority < x.priority) ∧
          ∀ x ∈ behind, x.priority ≤ o.priority
        r.2 = true ∧ after.lanes = a.lanes.set l (.releasing (some c')) ∧ r.1.mix = s.mix ∧
          (a.queue.length < 8 → returned a.queue) ∧
          ∀ kept last, a.queue = kept ++ [last] → a.queue.length = 8 →
            (last.priority < o.priority → returned kept ∧ lost last) ∧
            (o.priority ≤ last.priority → after.queue = a.queue ∧ lost o)) ∧
      ((∀ (l : LaneNo) (o : Claim), a.lanes[l].occupant = some o → c.priority ≤ o.priority) →
        after.lanes = a.lanes ∧ r.1.mix = s.mix ∧
        (a.queue.length < 8 → r.2 = true ∧
          ∃ ahead behind, a.queue = ahead ++ behind ∧ after.queue = ahead ++ c :: behind ∧
            (∀ x ∈ ahead, c.priority ≤ x.priority) ∧ ∀ x ∈ behind, x.priority < c.priority) ∧
        (∀ kept last, a.queue = kept ++ [last] → a.queue.length = 8 →
          (last.priority < c.priority → r.2 = true ∧ lost last ∧
            ∃ ahead behind, kept = ahead ++ behind ∧ after.queue = ahead ++ c :: behind ∧
              (∀ x ∈ ahead, c.priority ≤ x.priority) ∧ ∀ x ∈ behind, x.priority < c.priority) ∧
          (c.priority ≤ last.priority → r.2 = false ∧ r.1 = s))))) ∧
  ∀ (d : Dest) (x : Source) (ref : Ref) (w : Place) (c : Claim) (s : State),
    s.live.destinations[d].refuse = false → s.live.destinations[d].exclude ≠ some x →
    findClaim s.talk.dests[d] x = some (w, c) →
    let a := s.talk.dests[d]
    let r := seekClaim x ref d s
    let after := r.1.talk.dests[d]
    (4 ≤ c.refs.length → r = (s, false)) ∧
    (c.refs.length < 4 → r.2 = true ∧ ∃ c' : Claim, c'.talker = c.talker ∧ c'.occupancy = c.occupancy ∧
      c'.refs = c.refs ++ [ref] ∧ c'.priority = (c.refs ++ [ref]).foldl (fun m y => max m y.priority) 0 ∧
      c'.interrupt = (c.refs ++ [ref]).any (·.interrupt) ∧
      (∀ older newer y, c.refs ++ [ref] = older ++ y :: newer → y.priority = c'.priority →
        (∀ z ∈ older, z.priority ≠ c'.priority) → c'.gain = y.gain) ∧
      (∀ l, w = .active l → after = { a with lanes := a.lanes.set l (.active c') }) ∧
      (∀ l, w = .bound l → after = { a with lanes := a.lanes.set l (.releasing (some c')) }) ∧
      (w = .waiting → c'.priority ≤ c.priority →
        after = { a with queue := a.queue.map fun y => if y.talker = c.talker then c' else y }) ∧
      (w = .waiting → c.priority < c'.priority → a.queue.Pairwise (fun y z => z.priority ≤ y.priority) →
        (∀ (l : LaneNo) (o : Claim), a.lanes[l].occupant = some o → c'.priority ≤ o.priority) →
        after.lanes = a.lanes ∧ ∃ ahead behind,
          (a.queue.filter fun y => y.talker != c.talker) = ahead ++ behind ∧
          after.queue = ahead ++ c' :: behind ∧ (∀ y ∈ ahead, c'.priority ≤ y.priority) ∧
          ∀ y ∈ behind, y.priority < c'.priority) ∧
      (∀ (l : LaneNo) (o : Claim), w = .waiting → c.priority < c'.priority →
        (∀ j : LaneNo, a.lanes[j].occupant ≠ none) → a.lanes[l].occupant = some o → o.priority < c'.priority →
        (∀ (j : LaneNo) (y : Claim), a.lanes[j].occupant = some y → j ≠ l → o.priority < y.priority) →
        after.lanes = a.lanes.set l (.releasing (some { c' with occupancy := s.now }))))

/-- LANE_DRAINED (R128): in a RELEASING lane at coefficient 0 the bound claim becomes ACTIVE with its
occupancy kept and its voice rising from 0 (a dormant contributor that wakes on talk is woken), or the lane
becomes FREE; in any other lane the report is disregarded (for a RELEASING lane above coefficient 0, which
no report names, that is the model's choice, log 14). -/
def Obligations.DrainedLaneIsAnswered : Prop :=
  ∀ (d : Dest) (l : LaneNo) (s : State), ∃ t, exec (.laneDrained d l) s = .next t ∧
    t.talk.keys = s.talk.keys ∧ t.talk.calling = s.talk.calling ∧ t.base = s.base ∧
    (∀ o : Dest, o ≠ d → t.talk.dests[o].quiet = s.talk.dests[o].quiet) ∧
    (let a := s.talk.dests[d];
    let lane (x : Lane) : Prop := t.talk.dests[d].quiet = { a.quiet with lanes := a.lanes.set l x };
    let term (y : LaneTerm) : Prop :=
      t.mix = s.mix.set d { s.mix[d] with lanes := s.mix[d].lanes.set l y };
    (∀ c : Claim, a.lanes[l] = .releasing (some c) → s.mix[d].lanes[l].applied = 0 →
      lane (.active c) ∧ term { source := some c.talker, applied := 0, drained := false } ∧
        t.contexts = wokenContexts s d) ∧
    (a.lanes[l] = .releasing none → s.mix[d].lanes[l].applied = 0 →
      lane .free ∧ term { source := none, applied := 0, drained := false } ∧ t.contexts = s.contexts) ∧
    ((∃ b, a.lanes[l] = .releasing b) → s.mix[d].lanes[l].applied ≠ 0 →
      t.talk.dests[d].quiet = a.quiet ∧ t.mix = s.mix ∧ t.contexts = s.contexts) ∧
    ((∀ b, a.lanes[l] ≠ .releasing b) →
      t.talk.dests[d].quiet = a.quiet ∧ term { s.mix[d].lanes[l] with drained := false } ∧
        t.contexts = s.contexts))

/-- CLEAR_TALK (R116, R134, R99): no talk and no claim is left, every lane is FREE at 0 with no source and
every queue empty; a key that had a talk and is DOWN is DOWN_SPENT; the masters, the calling marks and the
rest of the part stay. -/
def Obligations.ClearTalkLeavesNoTalk : Prop :=
  ∀ (e : Env) (tag : Byte) (s : State), badSender s e.sender = false → ∃ t,
    exec (.clearTalk e tag [1]) s = .next t ∧
    (∀ k : KeyIndex, t.talk.keys[k] =
      { s.talk.keys[k] with
        talk := none
        pos := if s.talk.keys[k].talk ≠ none ∧ s.talk.keys[k].pos = .down then .downSpent
          else s.talk.keys[k].pos }) ∧
    (∀ d : Dest, (∀ l : LaneNo, t.talk.dests[d].lanes[l] = .free ∧
        t.mix[d].lanes[l] = { source := none, applied := 0, drained := false }) ∧
      t.talk.dests[d].queue = [] ∧ t.talk.dests[d].master = s.talk.dests[d].master ∧
      t.mix[d] = { s.mix[d] with lanes := t.mix[d].lanes }) ∧
    t.talk.calling = s.talk.calling ∧ t.contexts = s.contexts ∧ t.base = s.base ∧
    AnsweredLast e nReset tag rOk [] s t

/-! ### Contributor links -/

/-- GATEWAY_BASE (R138 to R141). A BASE marked more opens a negotiation, or opens it anew, and is answered with
the part's own BASE; a BASE that renegotiates a link counts a restart; a change to NEGOTIATING raises a notice. A BASE
with no more to come is answered alike and completes the negotiation at once: the link is resolved and goes ACTIVE,
with DELAY and ECHO, or DOWN where no way of return is common. A repeat is answered with the last reply and changes
nothing but the page frame in NEGOTIATING. That the notice and the TALLYs of a change stand before DELAY and ECHO, and
the notice of NEGOTIATING before the BASE, is the model's choice (log 8). -/
def Obligations.BaseOpensNegotiation : Prop :=
  ∀ (e : Env) (f : PageFlags) (offer : Abilities) (c : ContribIndex) (s : State),
    badSender s e.sender = false → contextHeard s e = some c →
    let x := s.contexts[c]
    let entry := s.live.contributors[c]
    let own := (Page.base ⟨!x.partToggle, true, false⟩ entry.offers).payload
    let echo : List Byte := 10 :: be24 (s.now.setWidth 24)
    let called := s.talk.calling[c]
    let accepted : Context :=
      { x with
        state := .negotiating, partToggle := !x.partToggle, gatewayToggle := some f.toggle
        lastReply := some own, progress := if f.more then .awaitNext else x.progress
        gatewayOffer := some offer, gatewayTolerance := none, gatewayIdent := none, pageFrame := s.now }
    let anew : Context :=
      { accepted with
        restartAttempts := 0, echoOutstanding := false, missCount := 0, wakeAttempts := 0
        restarts := if x.state = .down then x.restarts else bump x.restarts }
    let again := x.state = .negotiating ∧ x.gatewayToggle ≠ some f.toggle
    let opens := x.state ≠ .negotiating ∧ (x.state = .down ∨ x.gatewayToggle ≠ some f.toggle)
    let completes (y : Context) (t : State) : Prop := PageSent c own s t ∧
      (¬ noReturn offer entry.offers → LinkStep c ((y.agreed entry offer none 0).opened s.now) called s t ∧
        PagesLast c [[13, 0, 0, 0], echo] s t ∧ Raised .contributor ⟨byte c.val, 2, 0⟩ s t) ∧
      (noReturn offer entry.offers → LinkStep c y.closed false s t ∧
        Raised .contributor ⟨byte c.val, 0, 0⟩ s t)
    (f.more = true → again → ∃ t, exec (.gatewayBase e f offer) s = .next t ∧
      LinkStep c accepted called s t ∧ PagesLast c [own] s t ∧ (e.broadcast = false → Paged c own s t)) ∧
    (f.more = true → opens → ∃ t, exec (.gatewayBase e f offer) s = .next t ∧ LinkStep c anew called s t ∧
      PagesLast c [own] s t ∧ Raised .contributor ⟨byte c.val, 1, 0⟩ s t) ∧
    (f.more = false → again → ∃ t, exec (.gatewayBase e f offer) s = .next t ∧ completes accepted t) ∧
    (f.more = false → opens → ∃ t, exec (.gatewayBase e f offer) s = .next t ∧ completes anew t ∧
      Told .contributor ⟨byte c.val, 1, 0⟩ s t) ∧
    ∀ reply, x.state ≠ .down → x.gatewayToggle = some f.toggle → x.lastReply = some reply → ∃ t,
      exec (.gatewayBase e f offer) s = .next t ∧
        LinkStep c (if x.state = .negotiating then { x with pageFrame := s.now } else x) called s t ∧
        PagesLast c [reply] s t ∧ (e.broadcast = false → Paged c reply s t)

/-- GATEWAY_TOLERANCE, GATEWAY_IDENT and GATEWAY_NULL (R139 to R141). In NEGOTIATING an acknowledging page that is
no repeat is recorded and answered with NULL; with no more to come the link is resolved and goes ACTIVE, with a notice
and with DELAY and then ECHO sent, or goes DOWN, with a notice, where no way of return is common. Before the gateway's
BASE, or without its acknowledgement, it is a page error, which too sets the page frame (DEDUCED, log 11). A repeat is
answered with the last reply and changes nothing but the page frame in NEGOTIATING. In DOWN, and in any other state
where it is no repeat, it is a page error. That the notice and the TALLYs stand before DELAY and ECHO is the model's
choice (log 8). -/
def Obligations.NextPagesNegotiate : Prop :=
  ∀ (e : Env) (f : PageFlags) (v : BitVec 16) (c : ContribIndex) (s : State),
    badSender s e.sender = false → contextHeard s e = some c →
    let x := s.contexts[c]
    let own := (Page.null ⟨!x.partToggle, true, false⟩).payload
    let echo : List Byte := 10 :: be24 (s.now.setWidth 24)
    let accepted : Context :=
      { x with
        partToggle := !x.partToggle, gatewayToggle := some f.toggle, lastReply := some own
        pageFrame := s.now }
    let step (i : Instr) (y : Context) : Prop := ∃ t, exec i s = .next t ∧
      LinkStep c y s.talk.calling[c] s t ∧ (f.ack = true → e.broadcast = false →
        x.progress = .awaitNext → Paged c own s t)
    let each (holds : Instr → Prop) : Prop :=
      holds (.gatewayTolerance e f v) ∧ holds (.gatewayIdent e f v) ∧ holds (.gatewayNull e f)
    (x.state = .negotiating → x.gatewayToggle ≠ some f.toggle →
      (x.progress = .awaitNext → f.ack = true → f.more = true →
        step (.gatewayTolerance e f v) { accepted with gatewayTolerance := some v } ∧
        step (.gatewayIdent e f v) { accepted with gatewayIdent := some v } ∧
        step (.gatewayNull e f) accepted) ∧
      (x.progress = .awaitBase ∨ f.ack = false →
        let wrong : Context := { x with pageFrame := s.now, pageErrors := bump x.pageErrors }
        each fun i => step i wrong) ∧
      (x.progress = .awaitNext → f.ack = true → f.more = false →
        let o := x.gatewayOffer.getD Abilities.nothing
        let entry := s.live.contributors[c]
        let ends (i : Instr) (y : Context) (asked : Option (BitVec 16)) (ident : BitVec 16) : Prop :=
          ∃ t, exec i s = .next t ∧ PageSent c own s t ∧
            (¬ noReturn o entry.offers → step i ((y.agreed entry o asked ident).opened s.now) ∧
              PagesLast c [[13, 0, 0, 0], echo] s t ∧ Raised .contributor ⟨byte c.val, 2, 0⟩ s t) ∧
            (noReturn o entry.offers → LinkStep c y.closed false s t ∧
              Raised .contributor ⟨byte c.val, 0, 0⟩ s t)
        ends (.gatewayTolerance e f v) { accepted with gatewayTolerance := some v } (some v)
          (x.gatewayIdent.getD 0) ∧
        ends (.gatewayIdent e f v) { accepted with gatewayIdent := some v } x.gatewayTolerance v ∧
        ends (.gatewayNull e f) accepted x.gatewayTolerance (x.gatewayIdent.getD 0))) ∧
    (∀ reply, x.state ≠ .down → x.gatewayToggle = some f.toggle → x.lastReply = some reply →
      each fun i => ∃ t, exec i s = .next t ∧
        LinkStep c (if x.state = .negotiating then { x with pageFrame := s.now } else x) s.talk.calling[c] s t ∧
        PagesLast c [reply] s t ∧ (e.broadcast = false → Paged c reply s t)) ∧
    (x.state = .down ∨ x.state ≠ .negotiating ∧ x.gatewayToggle ≠ some f.toggle →
      each fun i => ∃ t, exec i s = .next t ∧
        LinkStep c { x with pageErrors := bump x.pageErrors } s.talk.calling[c] s t)

/-- GATEWAY_ECHO_BACK (R151, R155 to R158): the answer to the outstanding echo clears it and the miss count and
gives a sample, modulo 2^24; a sample above 96,000 is stale, a page error; another updates the average, a
quarter of the sample rounded, and the LONG_DELAY flag with its hysteresis of an eighth; a change of
the flag, or a move of more than 48 frames, is reported with a DELAY page. Any other answer is a page error, which in
NEGOTIATING leaves the page frame (DEDUCED, log 11). -/
def Obligations.EchoBackMeasuresDelay : Prop :=
  ∀ (e : Env) (stamp : BitVec 24) (c : ContribIndex) (s : State),
    badSender s e.sender = false → contextHeard s e = some c →
    let x := s.contexts[c]
    let sample := (s.now.toNat + 2 ^ 24 - stamp.toNat) % 2 ^ 24
    let answered : Context := { x with echoOutstanding := false, missCount := 0 }
    let step (y : Context) : Prop := ∃ t, exec (.gatewayEchoBack e stamp) s = .next t ∧
      LinkStep c y s.talk.calling[c] s t
    let serving := x.state = .active ∨ x.state = .standby ∨ x.state = .dormant ∨ x.state = .linecheck
    (serving → x.echoOutstanding = true → stamp = x.latestStamp →
      (96000 < sample → step { answered with pageErrors := bump x.pageErrors }) ∧
      ∀ (a : Nat) (flag : Bool), sample ≤ 96000 →
        a = (match x.average with | none => sample | some old => (3 * old + sample + 2) / 4) →
        (let limit := 48 * x.tolerance;
        flag = if x.longDelay then !decide (a ≤ limit - limit / 8) else decide (limit < a)) →
        let measured : Context := { answered with average := some a, longDelay := flag }
        let same := flag = x.longDelay ∧ a ≤ x.lastReported + 48 ∧ x.lastReported ≤ a + 48
        (same → step measured) ∧
        (¬ same → step { measured with lastReported := a } ∧ ∃ t,
          exec (.gatewayEchoBack e stamp) s = .next t ∧
          PagesLast c [13 :: (be16 (BitVec.ofNat 16 (a / 48)) ++ [yesNo flag])] s t)) ∧
    (¬ serving ∨ x.echoOutstanding = false ∨ stamp ≠ x.latestStamp →
      step { x with pageErrors := bump x.pageErrors })

/-- The other pages. GATEWAY_CALL (R147) in a serving state with CALL_CAPABLE resolved raises a CALL notice, makes the
call pending and sets the calling mark, and wakes a dormant context that wakes on call; GATEWAY_RESUME (R145) takes
DORMANT and WAKING to ACTIVE, with DELAY and ECHO; GATEWAY_CLOSE (R144) is answered in every state and takes every
other state to DOWN; GATEWAY_CLOSE_ACK (R144) takes CLOSING to DOWN; a change of state raises a notice (R152);
elsewhere each but CLOSE is a page error, as is a PAGE_ERROR (R137), and a page error in NEGOTIATING leaves the page
frame (DEDUCED, log 11). That the notice and the TALLYs stand before DELAY and ECHO is the model's choice (log 8). -/
def Obligations.CallResumeAndClosePages : Prop :=
  ∀ (e : Env) (c : ContribIndex) (s : State), badSender s e.sender = false → contextHeard s e = some c →
    let x := s.contexts[c]
    let step (i : Instr) (y : Context) (called : Bool) : Prop :=
      ∃ t, exec i s = .next t ∧ LinkStep c y called s t
    let raises (i : Instr) (k : NoticeClass) (d : Detail) : Prop := ∃ t, exec i s = .next t ∧ Raised k d s t
    let changes (i : Instr) (state : Byte) : Prop := raises i .contributor ⟨byte c.val, state, 0⟩
    let wrong : Context := { x with pageErrors := bump x.pageErrors }
    let calls := (x.state = .active ∨ x.state = .standby ∨ x.state = .dormant ∨ x.state = .linecheck) ∧
      x.resolved.callCapable = true
    let wakes := x.state = .dormant ∧ s.live.contributors[c].wakeOnCall = 1
    (calls → step (.gatewayCall e)
      (if wakes then { x with callPending := true }.woken s.now else { x with callPending := true }) true) ∧
    (calls → raises (.gatewayCall e) .call ⟨byte c.val, x.ident.extractLsb' 8 8, x.ident.extractLsb' 0 8⟩) ∧
    (calls → wakes → changes (.gatewayCall e) 5 ∧
      ∃ t, exec (.gatewayCall e) s = .next t ∧ PageSent c [11] s t) ∧
    (¬ calls → step (.gatewayCall e) wrong s.talk.calling[c]) ∧
    (x.state = .dormant ∨ x.state = .waking →
      step (.gatewayResume e) (x.opened s.now) s.talk.calling[c] ∧ changes (.gatewayResume e) 2 ∧
      ∃ t, exec (.gatewayResume e) s = .next t ∧
        PagesLast c [[13, 0, 0, 0], 10 :: be24 (s.now.setWidth 24)] s t) ∧
    (x.state ≠ .dormant → x.state ≠ .waking → step (.gatewayResume e) wrong s.talk.calling[c]) ∧
    (∃ t, exec (.gatewayClose e) s = .next t ∧ (e.broadcast = false → Paged c [9] s t) ∧ PageSent c [9] s t ∧
      (x.state ≠ .down → LinkStep c x.closed false s t ∧ Raised .contributor ⟨byte c.val, 0, 0⟩ s t) ∧
      (x.state = .down → t.muted = s.muted)) ∧
    (x.state = .closing → step (.gatewayCloseAck e) x.closed false ∧ changes (.gatewayCloseAck e) 0) ∧
    (x.state ≠ .closing → step (.gatewayCloseAck e) wrong s.talk.calling[c]) ∧
    ∀ b : List Byte, parsePage b = none → step (.pageError e b) wrong s.talk.calling[c]

/-- The contexts' timers, each at its moment and not before. NEGOTIATION_TIMEOUT (R142): three restarts, then
DOWN. ECHO_DUE (R148, R150): the next ECHO, and at the third miss the loss. WAKE_EXPIRY (R145): WAKE again
until the third, then the loss. CLOSE_TIMEOUT (R144): DOWN. A change to DOWN raises a notice (R152). That a row sent
at another moment, or in another state, has no effect is the model's choice (log 14). -/
def Obligations.ContextTimers : Prop :=
  ∀ (c : ContribIndex) (s : State),
    let x := s.contexts[c]
    let step (i : Instr) (y : Context) (called : Bool) : Prop :=
      ∃ t, exec i s = .next t ∧ LinkStep c y called s t
    let falls (i : Instr) (y : Context) : Prop :=
      ∃ t, exec i s = .next t ∧ LinkStep c y false s t ∧ Raised .contributor ⟨byte c.val, 0, 0⟩ s t
    let same := s.talk.calling[c]
    let own := (Page.base ⟨!x.partToggle, false, false⟩ s.live.contributors[c].offers).payload
    (x.state = .negotiating → 24000 ≤ s.since x.pageFrame →
      (x.restartAttempts < 3 → ∃ t, exec (.negotiationTimeout c) s = .next t ∧ Paged c own s t ∧
        LinkStep c
          { x with
            partToggle := !x.partToggle, gatewayToggle := none, lastReply := some own
            progress := .awaitBase, gatewayOffer := none, gatewayTolerance := none, gatewayIdent := none
            pageFrame := s.now, restartAttempts := x.restartAttempts + 1, restarts := bump x.restarts }
          same s t) ∧
      (3 ≤ x.restartAttempts → falls (.negotiationTimeout c) x.closed)) ∧
    (x.state ≠ .negotiating ∨ s.since x.pageFrame < 24000 → exec (.negotiationTimeout c) s = .next s) ∧
    (let interval := if x.state = .dormant then 480000 else 48000;
    let serving := x.state = .active ∨ x.state = .standby ∨ x.state = .dormant ∨ x.state = .linecheck;
    let echo (y : Context) : Prop := ∃ t, exec (.echoDue c) s = .next t ∧
      LinkStep c { y with echoFrame := s.now, latestStamp := s.now.setWidth 24, echoOutstanding := true }
        same s t ∧
      Paged c (10 :: be24 (s.now.setWidth 24)) s t;
    (serving → interval ≤ s.since x.echoFrame →
      (x.echoOutstanding = false → echo x) ∧
      (x.echoOutstanding = true → x.missCount < 2 → echo { x with missCount := x.missCount + 1 }) ∧
      (x.echoOutstanding = true → 2 ≤ x.missCount → falls (.echoDue c) x.lost)) ∧
    (¬ serving ∨ s.since x.echoFrame < interval → exec (.echoDue c) s = .next s)) ∧
    (x.state = .waking → 48000 ≤ s.since x.wakeFrame →
      (x.wakeAttempts < 3 → ∃ t, exec (.wakeExpiry c) s = .next t ∧ Paged c [11] s t ∧
        LinkStep c { x with wakeAttempts := x.wakeAttempts + 1, wakeFrame := s.now } same s t) ∧
      (3 ≤ x.wakeAttempts → falls (.wakeExpiry c) x.lost)) ∧
    (x.state ≠ .waking ∨ s.since x.wakeFrame < 48000 → exec (.wakeExpiry c) s = .next s) ∧
    (x.state = .closing → 24000 ≤ s.since x.closeFrame → falls (.closeTimeout c) x.closed) ∧
    (x.state ≠ .closing ∨ s.since x.closeFrame < 24000 → exec (.closeTimeout c) s = .next s)

/-- The eight commands of Table 8-5 (R143, R138, R145, R158) on an entry in use: in a state that allows it, each
takes its context to the new state, sends its page (RESTART its BASE, ACTIVATE and LINECHECK_OFF MODE and DELAY),
raises the notice of a change of state (R152) and is answered OK with the index and the new state; in any other state
it is answered BAD_STATE with the present state and changes nothing. That the answer stands behind the notice and the
TALLYs of the change is the model's choice (log 8). -/
def Obligations.ContributorCommands : Prop :=
  ∀ (e : Env) (tag : Byte) (c : ContribIndex) (s : State), badSender s e.sender = false →
    s.live.contributors[c].inUse = true →
    let x := s.contexts[c]
    let done (i : Instr) (y : Context) (state : Byte) (pages : List (List Byte)) : Prop :=
      ∃ t, exec i s = .next t ∧ LinkStep c y s.talk.calling[c] s t ∧
        AnsweredLast e nContributor tag rOk [byte c.val, state] s t ∧ (∀ b ∈ pages, PageSent c b s t) ∧
        (y.state ≠ x.state → Raised .contributor ⟨byte c.val, state, 0⟩ s t)
    let refused (i : Instr) : Prop := ∃ t, exec i s = .next t ∧ t.muted = s.muted ∧
      Answered e nContributor tag rBadState [byte c.val, x.state.code] s t
    let reported (y : Context) : Context := { y with lastReported := x.average.getD 0 }
    let delay : List Byte := 13 :: (be16 (BitVec.ofNat 16 (x.average.getD 0 / 48)) ++ [yesNo x.longDelay])
    (let own := (Page.base ⟨!x.partToggle, false, false⟩ s.live.contributors[c].offers).payload;
    done (.restart e tag [byte c.val, 0])
      { x with
        state := .negotiating, partToggle := !x.partToggle, gatewayToggle := none, lastReply := some own
        progress := .awaitBase, gatewayOffer := none, gatewayTolerance := none, gatewayIdent := none
        pageFrame := s.now, restartAttempts := 0, echoOutstanding := false, missCount := 0
        wakeAttempts := 0 } 1 [own]) ∧
    (let i := Instr.standby e tag [byte c.val, 1];
    (x.state = .active → done i { x with state := .standby } 3 [[12, 1]]) ∧
    (x.state ≠ .active → refused i)) ∧
    (let i := Instr.activate e tag [byte c.val, 2];
    (x.state = .standby → done i (reported { x with state := .active }) 2 [[12, 0], delay]) ∧
    (x.state ≠ .standby → refused i)) ∧
    (let i := Instr.dormant e tag [byte c.val, 3];
    let allowed := (x.state = .active ∨ x.state = .standby) ∧ x.resolved.dormantCapable = true;
    (allowed → done i { x with state := .dormant } 4 [[12, 2]]) ∧ (¬ allowed → refused i)) ∧
    (let i := Instr.wake e tag [byte c.val, 4];
    (x.state = .dormant → done i (x.woken s.now) 5 [[11]]) ∧ (x.state ≠ .dormant → refused i)) ∧
    (let i := Instr.linecheckOn e tag [byte c.val, 5];
    (x.state = .active → done i { x with state := .linecheck } 7 [[12, 3]]) ∧
    (x.state ≠ .active → refused i)) ∧
    (let i := Instr.linecheckOff e tag [byte c.val, 6];
    (x.state = .linecheck → done i (reported { x with state := .active }) 2 [[12, 0], delay]) ∧
    (x.state ≠ .linecheck → refused i)) ∧
    (let i := Instr.close e tag [byte c.val, 7];
    (x.state ≠ .down → done i { x with state := .closing, closeFrame := s.now } 6 [[8]]) ∧
    (x.state = .down → refused i))

/-! ### Reports -/

/-- STATUS (R165, R100, R153) and QUEUE (R135): STATUS_DEVICE answers the 41 bytes of Table 10-2 and then delivers
every class that is pending and unmasked, in class order (R163), where the routing is configured;
STATUS_DESTINATION answers and clears the peak meter and the clip flag; STATUS_CONTRIBUTOR answers and clears the
loss mark; QUEUE answers and changes nothing but messages. -/
def Obligations.StatusAndQueueReports : Prop :=
  ∀ (e : Env) (tag : Byte) (s : State), badSender s e.sender = false →
    (∃ t, exec (.statusDevice e tag [0, 0]) s = .next t ∧ t.muted = s.muted ∧
      (let data : List Byte :=
        [0, 0, s.clock.mode.code, optByte s.clock.reference]
          ++ (List.finRange 8).map (fun p : Port => s.ports[p].mode.code) ++ be16 s.store.generation
          ++ (match s.store.take with
              | none => 0 :: be48 0
              | some (.immediate _ _ _ _) => 1 :: be48 0
              | some (.scheduled f _) => 2 :: be48 f)
          ++ (List.finRange 7).map (fun k => yesNo s.notices[k].mask)
          ++ (List.finRange 7).map (fun k => yesNo s.notices[k].pending) ++ be48 s.now;
      let answer := replyEntry e nStatus tag rOk data s;
      data.length = 41 ∧ (e.broadcast = false →
        (hasRoom s e.port = true →
          ∃ delivered, t.ports[e.port].egress = s.ports[e.port].egress ++ answer :: delivered) ∧
        (hasRoom t e.port = true → (∀ p a, noticeRoute s = some (p, a) → hasRoom t p = true) →
          (∀ q : Port, t.ports[q].egress = s.ports[q].egress ++ (if q = e.port then [answer] else []) ++
            match noticeRoute s with
            | some (p, a) => if q = p then deliveries (fun _ => true) s a else []
            | none => []) ∧
          ∀ k : NoticeClass,
            t.notices[k.code] =
              if s.notices[k.code].mask = false ∧ s.notices[k.code].latest ≠ none ∧ noticeRoute s ≠ none
              then { s.notices[k.code] with pending := false } else s.notices[k.code])))) ∧
    (∀ d : Dest, ∃ t, exec (.statusDestination e tag [1, byte d.val]) s = .next t ∧
      t.muted = (s.updMix d fun m => { m with peak := 0, clipFlag := false }).muted ∧
      Answered e nStatus tag rOk
        ([1, byte d.val] ++ be24 (BitVec.ofNat 24 s.mix[d].peak) ++
          [yesNo s.mix[d].clipFlag, s.talk.dests[d].master] ++ be16 (BitVec.ofNat 16 s.mix[d].dim) ++
          [byte ((List.finRange 4).countP fun l => s.talk.dests[d].lanes[l].occupant.isSome),
           byte s.talk.dests[d].queue.length]) s t) ∧
    (∀ c : ContribIndex, ∃ t, exec (.statusContributor e tag [2, byte c.val]) s = .next t ∧
      t.muted = (s.updContext c fun x => { x with lossMark := false }).muted ∧
      (let x := s.contexts[c];
      let serving := x.state == .active || x.state == .standby || x.state == .dormant ||
        x.state == .linecheck;
      Answered e nStatus tag rOk
        ([2, byte c.val, x.state.code, yesNo (serving && !x.lossMark), yesNo x.resolved.fullReturn,
          yesNo x.resolved.talkbackReturn, yesNo x.resolved.dormantCapable, yesNo x.resolved.callCapable,
          match x.returnMode with | .absent => 0 | .full => 1 | .talkbackOnly => 2]
          ++ be16 (BitVec.ofNat 16 x.tolerance) ++ be24 (BitVec.ofNat 24 (x.average.getD 0))
          ++ yesNo x.longDelay :: be16 x.ident ++ [yesNo x.callPending]) s t)) ∧
    ∀ d : Dest, ∃ t, exec (.queue e tag [byte d.val]) s = .next t ∧ t.muted = s.muted ∧
      (let a := s.talk.dests[d];
      Answered e nQueue tag rOk
        (byte d.val :: ((List.finRange 4).flatMap fun l : LaneNo =>
            match a.lanes[l] with
            | .free => [0, 255, 255]
            | .active c => [1, byte c.talker.val, byte c.priority]
            | .releasing (some c) => [2, byte c.talker.val, byte c.priority]
            | .releasing none => [2, 255, 255])
          ++ byte a.queue.length :: a.queue.flatMap fun c => [byte c.talker.val, byte c.priority]) s t)

/-- COUNTERS (R166): each row answers its counters in the order of Table 10-3, and clears them with the answer
where the clear byte is 1: the egress drop counter too, which then counts only what becomes of the answer itself.
That a broadcast's copy to the trunk is offered, and any drop of it counted, before the counters are read and cleared
is the model's choice (log 8). -/
def Obligations.CountersReadAndClear : Prop :=
  ∀ (e : Env) (tag : Byte) (clear : Bool) (s : State), badSender s e.sender = false →
    let after (cleared : State) : State := if clear then cleared else s
    (∀ p : Port, ∃ t, exec (.countersPort e tag [0, byte p.val, yesNo clear]) s = .next t ∧
      t.muted = (after (s.updPort p fun q =>
        { q with
          crcErrors := 0, sequenceErrors := 0, slipRepeats := 0, slipDiscards := 0, lockLosses := 0
          fragments := 0, laneErrors := 0 })).muted ∧
      (clear = true → p ≠ e.port → t.ports[p].egressDrops = 0) ∧
      (clear = true → p = e.port → e.broadcast = false →
        let free := ∃ x ∈ s.ports[p].egress, x.sent = 0 ∧ ∃ k d, x.origin = .notice k d
        (s.ports[p].mode = .locked ∧ (s.ports[p].egress.length < 16 ∨ free) → t.ports[p].egressDrops = 0) ∧
        (¬ (s.ports[p].mode = .locked ∧ (s.ports[p].egress.length < 16 ∨ free)) →
          t.ports[p].egressDrops = 1)) ∧
      (clear = false → p ≠ e.port → e.broadcast = false → t.ports[p].egressDrops = s.ports[p].egressDrops) ∧
      (let q := s.ports[p];
      Answered e nCounters tag rOk
        ([0, byte p.val] ++ be16 q.crcErrors ++ be16 q.sequenceErrors ++ be16 q.slipRepeats
          ++ be16 q.slipDiscards ++ be16 q.lockLosses ++ be16 q.fragments ++ be16 q.laneErrors
          ++ be16 q.egressDrops) s t)) ∧
    (∃ t, exec (.countersDevice e tag [1, 0, yesNo clear]) s = .next t ∧
      t.muted = (after ((s.updCounters fun _ => DeviceCounters.zero).updClock fun c =>
        { c with trainingRejections := 0 })).muted ∧
      (let c := s.counters;
      Answered e nCounters tag rOk
        ([1, 0] ++ be16 s.clock.trainingRejections ++ be16 c.addressErrors ++ be16 c.unknownPanels
          ++ be16 c.unknownGateways ++ be16 c.unhandledKinds ++ be16 c.malformedRequests
          ++ be16 c.forwardDrops ++ be16 c.malformedPanel ++ be16 c.unknownKeys) s t)) ∧
    (∀ c : ContribIndex, ∃ t,
      exec (.countersContributor e tag [2, byte c.val, yesNo clear]) s = .next t ∧
      t.muted = (after (s.updContext c fun x =>
        { x with pageErrors := 0, losses := 0, restarts := 0 })).muted ∧
      (let x := s.contexts[c];
      Answered e nCounters tag rOk
        ([2, byte c.val] ++ be16 x.pageErrors ++ be16 x.losses ++ be16 x.restarts) s t)) ∧
    ∀ d : Dest, ∃ t, exec (.countersDestination e tag [3, byte d.val, yesNo clear]) s = .next t ∧
      t.muted = (after (s.updMix d fun m => { m with clipCount := 0 })).muted ∧
      Answered e nCounters tag rOk ([3, byte d.val] ++ be16 s.mix[d].clipCount) s t
end

