-- ==== Sys2Proof/Laws/State.lean ====
section
/-! SUPPORT. One lemma per field per update of one block, true by unfolding, so that no proof unfolds a
record update. -/

namespace Sys2Proof.Machine

variable (s : State)

@[simp] theorem State.updPort_straps (p : Port) (f : PortState → PortState) : (s.updPort p f).straps = s.straps := rfl
@[simp] theorem State.updPort_unit (p : Port) (f : PortState → PortState) : (s.updPort p f).unit = s.unit := rfl
@[simp] theorem State.updPort_ports (p : Port) (f : PortState → PortState) : (s.updPort p f).ports = s.ports.set p (f s.ports[p]) := rfl
@[simp] theorem State.updPort_clock (p : Port) (f : PortState → PortState) : (s.updPort p f).clock = s.clock := rfl
@[simp] theorem State.updPort_counters (p : Port) (f : PortState → PortState) : (s.updPort p f).counters = s.counters := rfl
@[simp] theorem State.updPort_store (p : Port) (f : PortState → PortState) : (s.updPort p f).store = s.store := rfl
@[simp] theorem State.updPort_talk (p : Port) (f : PortState → PortState) : (s.updPort p f).talk = s.talk := rfl
@[simp] theorem State.updPort_mix (p : Port) (f : PortState → PortState) : (s.updPort p f).mix = s.mix := rfl
@[simp] theorem State.updPort_contexts (p : Port) (f : PortState → PortState) : (s.updPort p f).contexts = s.contexts := rfl
@[simp] theorem State.updPort_notices (p : Port) (f : PortState → PortState) : (s.updPort p f).notices = s.notices := rfl
@[simp] theorem State.updPort_choices (p : Port) (f : PortState → PortState) : (s.updPort p f).choices = s.choices := rfl
@[simp] theorem State.updPort_pending (p : Port) (f : PortState → PortState) : (s.updPort p f).pending = s.pending := rfl

@[simp] theorem State.updClock_straps (f : Clock → Clock) : (s.updClock f).straps = s.straps := rfl
@[simp] theorem State.updClock_unit (f : Clock → Clock) : (s.updClock f).unit = s.unit := rfl
@[simp] theorem State.updClock_ports (f : Clock → Clock) : (s.updClock f).ports = s.ports := rfl
@[simp] theorem State.updClock_clock (f : Clock → Clock) : (s.updClock f).clock = f s.clock := rfl
@[simp] theorem State.updClock_counters (f : Clock → Clock) : (s.updClock f).counters = s.counters := rfl
@[simp] theorem State.updClock_store (f : Clock → Clock) : (s.updClock f).store = s.store := rfl
@[simp] theorem State.updClock_talk (f : Clock → Clock) : (s.updClock f).talk = s.talk := rfl
@[simp] theorem State.updClock_mix (f : Clock → Clock) : (s.updClock f).mix = s.mix := rfl
@[simp] theorem State.updClock_contexts (f : Clock → Clock) : (s.updClock f).contexts = s.contexts := rfl
@[simp] theorem State.updClock_notices (f : Clock → Clock) : (s.updClock f).notices = s.notices := rfl
@[simp] theorem State.updClock_choices (f : Clock → Clock) : (s.updClock f).choices = s.choices := rfl
@[simp] theorem State.updClock_pending (f : Clock → Clock) : (s.updClock f).pending = s.pending := rfl

@[simp] theorem State.updCounters_straps (f : DeviceCounters → DeviceCounters) : (s.updCounters f).straps = s.straps := rfl
@[simp] theorem State.updCounters_unit (f : DeviceCounters → DeviceCounters) : (s.updCounters f).unit = s.unit := rfl
@[simp] theorem State.updCounters_ports (f : DeviceCounters → DeviceCounters) : (s.updCounters f).ports = s.ports := rfl
@[simp] theorem State.updCounters_clock (f : DeviceCounters → DeviceCounters) : (s.updCounters f).clock = s.clock := rfl
@[simp] theorem State.updCounters_counters (f : DeviceCounters → DeviceCounters) : (s.updCounters f).counters = f s.counters := rfl
@[simp] theorem State.updCounters_store (f : DeviceCounters → DeviceCounters) : (s.updCounters f).store = s.store := rfl
@[simp] theorem State.updCounters_talk (f : DeviceCounters → DeviceCounters) : (s.updCounters f).talk = s.talk := rfl
@[simp] theorem State.updCounters_mix (f : DeviceCounters → DeviceCounters) : (s.updCounters f).mix = s.mix := rfl
@[simp] theorem State.updCounters_contexts (f : DeviceCounters → DeviceCounters) : (s.updCounters f).contexts = s.contexts := rfl
@[simp] theorem State.updCounters_notices (f : DeviceCounters → DeviceCounters) : (s.updCounters f).notices = s.notices := rfl
@[simp] theorem State.updCounters_choices (f : DeviceCounters → DeviceCounters) : (s.updCounters f).choices = s.choices := rfl
@[simp] theorem State.updCounters_pending (f : DeviceCounters → DeviceCounters) : (s.updCounters f).pending = s.pending := rfl

@[simp] theorem State.updStore_straps (f : TableStore → TableStore) : (s.updStore f).straps = s.straps := rfl
@[simp] theorem State.updStore_unit (f : TableStore → TableStore) : (s.updStore f).unit = s.unit := rfl
@[simp] theorem State.updStore_ports (f : TableStore → TableStore) : (s.updStore f).ports = s.ports := rfl
@[simp] theorem State.updStore_clock (f : TableStore → TableStore) : (s.updStore f).clock = s.clock := rfl
@[simp] theorem State.updStore_counters (f : TableStore → TableStore) : (s.updStore f).counters = s.counters := rfl
@[simp] theorem State.updStore_store (f : TableStore → TableStore) : (s.updStore f).store = f s.store := rfl
@[simp] theorem State.updStore_talk (f : TableStore → TableStore) : (s.updStore f).talk = s.talk := rfl
@[simp] theorem State.updStore_mix (f : TableStore → TableStore) : (s.updStore f).mix = s.mix := rfl
@[simp] theorem State.updStore_contexts (f : TableStore → TableStore) : (s.updStore f).contexts = s.contexts := rfl
@[simp] theorem State.updStore_notices (f : TableStore → TableStore) : (s.updStore f).notices = s.notices := rfl
@[simp] theorem State.updStore_choices (f : TableStore → TableStore) : (s.updStore f).choices = s.choices := rfl
@[simp] theorem State.updStore_pending (f : TableStore → TableStore) : (s.updStore f).pending = s.pending := rfl

@[simp] theorem State.updTalk_straps (f : TalkArbiter → TalkArbiter) : (s.updTalk f).straps = s.straps := rfl
@[simp] theorem State.updTalk_unit (f : TalkArbiter → TalkArbiter) : (s.updTalk f).unit = s.unit := rfl
@[simp] theorem State.updTalk_ports (f : TalkArbiter → TalkArbiter) : (s.updTalk f).ports = s.ports := rfl
@[simp] theorem State.updTalk_clock (f : TalkArbiter → TalkArbiter) : (s.updTalk f).clock = s.clock := rfl
@[simp] theorem State.updTalk_counters (f : TalkArbiter → TalkArbiter) : (s.updTalk f).counters = s.counters := rfl
@[simp] theorem State.updTalk_store (f : TalkArbiter → TalkArbiter) : (s.updTalk f).store = s.store := rfl
@[simp] theorem State.updTalk_talk (f : TalkArbiter → TalkArbiter) : (s.updTalk f).talk = f s.talk := rfl
@[simp] theorem State.updTalk_mix (f : TalkArbiter → TalkArbiter) : (s.updTalk f).mix = s.mix := rfl
@[simp] theorem State.updTalk_contexts (f : TalkArbiter → TalkArbiter) : (s.updTalk f).contexts = s.contexts := rfl
@[simp] theorem State.updTalk_notices (f : TalkArbiter → TalkArbiter) : (s.updTalk f).notices = s.notices := rfl
@[simp] theorem State.updTalk_choices (f : TalkArbiter → TalkArbiter) : (s.updTalk f).choices = s.choices := rfl
@[simp] theorem State.updTalk_pending (f : TalkArbiter → TalkArbiter) : (s.updTalk f).pending = s.pending := rfl

@[simp] theorem State.updKey_straps (k : KeyIndex) (f : KeyRun → KeyRun) : (s.updKey k f).straps = s.straps := rfl
@[simp] theorem State.updKey_unit (k : KeyIndex) (f : KeyRun → KeyRun) : (s.updKey k f).unit = s.unit := rfl
@[simp] theorem State.updKey_ports (k : KeyIndex) (f : KeyRun → KeyRun) : (s.updKey k f).ports = s.ports := rfl
@[simp] theorem State.updKey_clock (k : KeyIndex) (f : KeyRun → KeyRun) : (s.updKey k f).clock = s.clock := rfl
@[simp] theorem State.updKey_counters (k : KeyIndex) (f : KeyRun → KeyRun) : (s.updKey k f).counters = s.counters := rfl
@[simp] theorem State.updKey_store (k : KeyIndex) (f : KeyRun → KeyRun) : (s.updKey k f).store = s.store := rfl
@[simp] theorem State.updKey_talk (k : KeyIndex) (f : KeyRun → KeyRun) : (s.updKey k f).talk = { s.talk with keys := s.talk.keys.set k (f s.talk.keys[k]) } := rfl
@[simp] theorem State.updKey_mix (k : KeyIndex) (f : KeyRun → KeyRun) : (s.updKey k f).mix = s.mix := rfl
@[simp] theorem State.updKey_contexts (k : KeyIndex) (f : KeyRun → KeyRun) : (s.updKey k f).contexts = s.contexts := rfl
@[simp] theorem State.updKey_notices (k : KeyIndex) (f : KeyRun → KeyRun) : (s.updKey k f).notices = s.notices := rfl
@[simp] theorem State.updKey_choices (k : KeyIndex) (f : KeyRun → KeyRun) : (s.updKey k f).choices = s.choices := rfl
@[simp] theorem State.updKey_pending (k : KeyIndex) (f : KeyRun → KeyRun) : (s.updKey k f).pending = s.pending := rfl

@[simp] theorem State.updDest_straps (d : Dest) (f : Arbitration → Arbitration) : (s.updDest d f).straps = s.straps := rfl
@[simp] theorem State.updDest_unit (d : Dest) (f : Arbitration → Arbitration) : (s.updDest d f).unit = s.unit := rfl
@[simp] theorem State.updDest_ports (d : Dest) (f : Arbitration → Arbitration) : (s.updDest d f).ports = s.ports := rfl
@[simp] theorem State.updDest_clock (d : Dest) (f : Arbitration → Arbitration) : (s.updDest d f).clock = s.clock := rfl
@[simp] theorem State.updDest_counters (d : Dest) (f : Arbitration → Arbitration) : (s.updDest d f).counters = s.counters := rfl
@[simp] theorem State.updDest_store (d : Dest) (f : Arbitration → Arbitration) : (s.updDest d f).store = s.store := rfl
@[simp] theorem State.updDest_talk (d : Dest) (f : Arbitration → Arbitration) : (s.updDest d f).talk = { s.talk with dests := s.talk.dests.set d (f s.talk.dests[d]) } := rfl
@[simp] theorem State.updDest_mix (d : Dest) (f : Arbitration → Arbitration) : (s.updDest d f).mix = s.mix := rfl
@[simp] theorem State.updDest_contexts (d : Dest) (f : Arbitration → Arbitration) : (s.updDest d f).contexts = s.contexts := rfl
@[simp] theorem State.updDest_notices (d : Dest) (f : Arbitration → Arbitration) : (s.updDest d f).notices = s.notices := rfl
@[simp] theorem State.updDest_choices (d : Dest) (f : Arbitration → Arbitration) : (s.updDest d f).choices = s.choices := rfl
@[simp] theorem State.updDest_pending (d : Dest) (f : Arbitration → Arbitration) : (s.updDest d f).pending = s.pending := rfl

@[simp] theorem State.updMix_straps (d : Dest) (f : MixState → MixState) : (s.updMix d f).straps = s.straps := rfl
@[simp] theorem State.updMix_unit (d : Dest) (f : MixState → MixState) : (s.updMix d f).unit = s.unit := rfl
@[simp] theorem State.updMix_ports (d : Dest) (f : MixState → MixState) : (s.updMix d f).ports = s.ports := rfl
@[simp] theorem State.updMix_clock (d : Dest) (f : MixState → MixState) : (s.updMix d f).clock = s.clock := rfl
@[simp] theorem State.updMix_counters (d : Dest) (f : MixState → MixState) : (s.updMix d f).counters = s.counters := rfl
@[simp] theorem State.updMix_store (d : Dest) (f : MixState → MixState) : (s.updMix d f).store = s.store := rfl
@[simp] theorem State.updMix_talk (d : Dest) (f : MixState → MixState) : (s.updMix d f).talk = s.talk := rfl
@[simp] theorem State.updMix_mix (d : Dest) (f : MixState → MixState) : (s.updMix d f).mix = s.mix.set d (f s.mix[d]) := rfl
@[simp] theorem State.updMix_contexts (d : Dest) (f : MixState → MixState) : (s.updMix d f).contexts = s.contexts := rfl
@[simp] theorem State.updMix_notices (d : Dest) (f : MixState → MixState) : (s.updMix d f).notices = s.notices := rfl
@[simp] theorem State.updMix_choices (d : Dest) (f : MixState → MixState) : (s.updMix d f).choices = s.choices := rfl
@[simp] theorem State.updMix_pending (d : Dest) (f : MixState → MixState) : (s.updMix d f).pending = s.pending := rfl

@[simp] theorem State.updTerm_straps (d : Dest) (l : LaneNo) (f : LaneTerm → LaneTerm) : (s.updTerm d l f).straps = s.straps := rfl
@[simp] theorem State.updTerm_unit (d : Dest) (l : LaneNo) (f : LaneTerm → LaneTerm) : (s.updTerm d l f).unit = s.unit := rfl
@[simp] theorem State.updTerm_ports (d : Dest) (l : LaneNo) (f : LaneTerm → LaneTerm) : (s.updTerm d l f).ports = s.ports := rfl
@[simp] theorem State.updTerm_clock (d : Dest) (l : LaneNo) (f : LaneTerm → LaneTerm) : (s.updTerm d l f).clock = s.clock := rfl
@[simp] theorem State.updTerm_counters (d : Dest) (l : LaneNo) (f : LaneTerm → LaneTerm) : (s.updTerm d l f).counters = s.counters := rfl
@[simp] theorem State.updTerm_store (d : Dest) (l : LaneNo) (f : LaneTerm → LaneTerm) : (s.updTerm d l f).store = s.store := rfl
@[simp] theorem State.updTerm_talk (d : Dest) (l : LaneNo) (f : LaneTerm → LaneTerm) : (s.updTerm d l f).talk = s.talk := rfl
@[simp] theorem State.updTerm_mix (d : Dest) (l : LaneNo) (f : LaneTerm → LaneTerm) : (s.updTerm d l f).mix = s.mix.set d { s.mix[d] with lanes := s.mix[d].lanes.set l (f s.mix[d].lanes[l]) } := rfl
@[simp] theorem State.updTerm_contexts (d : Dest) (l : LaneNo) (f : LaneTerm → LaneTerm) : (s.updTerm d l f).contexts = s.contexts := rfl
@[simp] theorem State.updTerm_notices (d : Dest) (l : LaneNo) (f : LaneTerm → LaneTerm) : (s.updTerm d l f).notices = s.notices := rfl
@[simp] theorem State.updTerm_choices (d : Dest) (l : LaneNo) (f : LaneTerm → LaneTerm) : (s.updTerm d l f).choices = s.choices := rfl
@[simp] theorem State.updTerm_pending (d : Dest) (l : LaneNo) (f : LaneTerm → LaneTerm) : (s.updTerm d l f).pending = s.pending := rfl

@[simp] theorem State.updContext_straps (c : ContribIndex) (f : Context → Context) : (s.updContext c f).straps = s.straps := rfl
@[simp] theorem State.updContext_unit (c : ContribIndex) (f : Context → Context) : (s.updContext c f).unit = s.unit := rfl
@[simp] theorem State.updContext_ports (c : ContribIndex) (f : Context → Context) : (s.updContext c f).ports = s.ports := rfl
@[simp] theorem State.updContext_clock (c : ContribIndex) (f : Context → Context) : (s.updContext c f).clock = s.clock := rfl
@[simp] theorem State.updContext_counters (c : ContribIndex) (f : Context → Context) : (s.updContext c f).counters = s.counters := rfl
@[simp] theorem State.updContext_store (c : ContribIndex) (f : Context → Context) : (s.updContext c f).store = s.store := rfl
@[simp] theorem State.updContext_talk (c : ContribIndex) (f : Context → Context) : (s.updContext c f).talk = s.talk := rfl
@[simp] theorem State.updContext_mix (c : ContribIndex) (f : Context → Context) : (s.updContext c f).mix = s.mix := rfl
@[simp] theorem State.updContext_contexts (c : ContribIndex) (f : Context → Context) : (s.updContext c f).contexts = s.contexts.set c (f s.contexts[c]) := rfl
@[simp] theorem State.updContext_notices (c : ContribIndex) (f : Context → Context) : (s.updContext c f).notices = s.notices := rfl
@[simp] theorem State.updContext_choices (c : ContribIndex) (f : Context → Context) : (s.updContext c f).choices = s.choices := rfl
@[simp] theorem State.updContext_pending (c : ContribIndex) (f : Context → Context) : (s.updContext c f).pending = s.pending := rfl

@[simp] theorem State.updNotice_straps (k : NoticeClass) (f : NoticeState → NoticeState) : (s.updNotice k f).straps = s.straps := rfl
@[simp] theorem State.updNotice_unit (k : NoticeClass) (f : NoticeState → NoticeState) : (s.updNotice k f).unit = s.unit := rfl
@[simp] theorem State.updNotice_ports (k : NoticeClass) (f : NoticeState → NoticeState) : (s.updNotice k f).ports = s.ports := rfl
@[simp] theorem State.updNotice_clock (k : NoticeClass) (f : NoticeState → NoticeState) : (s.updNotice k f).clock = s.clock := rfl
@[simp] theorem State.updNotice_counters (k : NoticeClass) (f : NoticeState → NoticeState) : (s.updNotice k f).counters = s.counters := rfl
@[simp] theorem State.updNotice_store (k : NoticeClass) (f : NoticeState → NoticeState) : (s.updNotice k f).store = s.store := rfl
@[simp] theorem State.updNotice_talk (k : NoticeClass) (f : NoticeState → NoticeState) : (s.updNotice k f).talk = s.talk := rfl
@[simp] theorem State.updNotice_mix (k : NoticeClass) (f : NoticeState → NoticeState) : (s.updNotice k f).mix = s.mix := rfl
@[simp] theorem State.updNotice_contexts (k : NoticeClass) (f : NoticeState → NoticeState) : (s.updNotice k f).contexts = s.contexts := rfl
@[simp] theorem State.updNotice_notices (k : NoticeClass) (f : NoticeState → NoticeState) : (s.updNotice k f).notices = s.notices.set k.code (f s.notices[k.code]) := rfl
@[simp] theorem State.updNotice_choices (k : NoticeClass) (f : NoticeState → NoticeState) : (s.updNotice k f).choices = s.choices := rfl
@[simp] theorem State.updNotice_pending (k : NoticeClass) (f : NoticeState → NoticeState) : (s.updNotice k f).pending = s.pending := rfl

end Sys2Proof.Machine
end

