-- ==== Sys2Proof/Laws/Messages.lean ====
section
/-! SUPPORT. What composing and offering a message can do: it changes egress queues, egress drop
counters and pending notices, and nothing else. -/

namespace Sys2Proof.Machine

/-! ### `muted` and `base` keep every other field -/

section fields
variable (s : State)

@[simp] theorem State.muted_straps : s.muted.straps = s.straps := rfl
@[simp] theorem State.muted_unit : s.muted.unit = s.unit := rfl
@[simp] theorem State.muted_clock : s.muted.clock = s.clock := rfl
@[simp] theorem State.muted_counters : s.muted.counters = s.counters := rfl
@[simp] theorem State.muted_store : s.muted.store = s.store := rfl
@[simp] theorem State.muted_talk : s.muted.talk = s.talk := rfl
@[simp] theorem State.muted_mix : s.muted.mix = s.mix := rfl
@[simp] theorem State.muted_contexts : s.muted.contexts = s.contexts := rfl
@[simp] theorem State.muted_choices : s.muted.choices = s.choices := rfl
@[simp] theorem State.muted_pending : s.muted.pending = s.pending := rfl

end fields

/-- States with one `muted` agree on every field that messages do not touch. -/
theorem State.muted_agree {s t : State} (h : t.muted = s.muted) :
    t.straps = s.straps ∧ t.unit = s.unit ∧ t.clock = s.clock ∧ t.counters = s.counters ∧
      t.store = s.store ∧ t.talk = s.talk ∧ t.mix = s.mix ∧ t.contexts = s.contexts ∧
      t.choices = s.choices ∧ t.pending = s.pending :=
  ⟨by simpa using congrArg State.straps h, by simpa using congrArg State.unit h, by simpa using congrArg State.clock h, by simpa using congrArg State.counters h,
    by simpa using congrArg State.store h, by simpa using congrArg State.talk h, by simpa using congrArg State.mix h,
    by simpa using congrArg State.contexts h, by simpa using congrArg State.choices h, by simpa using congrArg State.pending h⟩

theorem vector_set_map {α β : Type} {n : Nat} (v : Vector α n) (f : α → β) (i : Fin n) (a : α)
    (h : f a = f v[i]) : (v.set i a).map f = v.map f := by
  apply Vector.ext
  intro j hj
  simp only [Vector.getElem_map, Vector.getElem_set]
  split
  · next e => subst e; exact h
  · rfl

theorem State.muted_updPort (s : State) (p : Port) (f : PortState → PortState)
    (h : (f s.ports[p]).muted = s.ports[p].muted) : (s.updPort p f).muted = s.muted := by
  simp only [State.muted, State.updPort]
  rw [vector_set_map _ _ _ _ h]

theorem State.muted_updNotice (s : State) (k : NoticeClass) (f : NoticeState → NoticeState)
    (h : (f s.notices[k.code]).muted = s.notices[k.code].muted) :
    (s.updNotice k f).muted = s.muted := by
  simp only [State.muted, State.updNotice]
  rw [vector_set_map _ _ _ _ h]

/-- A fold of steps that each keep a view of the state keeps it. -/
theorem foldl_keeps {α β : Type} (view : State → β) (f : State → α → State)
    (h : ∀ s a, view (f s a) = view s) (l : List α) (s : State) : view (l.foldl f s) = view s := by
  induction l generalizing s with
  | nil => rfl
  | cons a l ih => rw [List.foldl_cons, ih, h]

/-! ### Notices -/

@[simp] theorem muted_setPending (k : NoticeClass) (d : Detail) (s : State) :
    (setPending k d s).muted = s.muted := State.muted_updNotice s k _ rfl

@[simp] theorem muted_enqueue (p : Port) (e : EgressEntry) (s : State) :
    (enqueue p e s).muted = s.muted := State.muted_updPort s p _ rfl

@[simp] theorem muted_offerNotice (p : Port) (a : Byte) (k : NoticeClass) (d : Detail) (s : State) :
    (offerNotice p a k d s).muted = s.muted := by
  unfold offerNotice
  split
  · rw [State.muted_updNotice _ _ _ rfl, muted_enqueue]
  · exact muted_setPending k d s

/-- R162: raising a notice. -/
@[simp] theorem muted_raiseNotice (k : NoticeClass) (d : Detail) (s : State) :
    (raiseNotice k d s).muted = s.muted := by
  unfold raiseNotice
  split
  · exact muted_setPending k d s
  · split <;> simp

/-- R163: delivering a class. -/
@[simp] theorem muted_deliver (k : NoticeClass) (s : State) : (deliver k s).muted = s.muted := by
  unfold deliver
  dsimp only
  split <;> simp

@[simp] theorem muted_deliverAll (s : State) : (deliverAll s).muted = s.muted :=
  foldl_keeps State.muted _ (fun s _ => muted_deliver _ s) _ s

/-! ### Messages -/

@[simp] theorem muted_egressDrop (p : Port) (s : State) : (egressDrop p s).muted = s.muted := by
  unfold egressDrop
  rw [muted_raiseNotice, State.muted_updPort _ _ _ rfl]

/-- R34 to R36: offering a message. -/
@[simp] theorem muted_offer (p : Port) (o : Origin) (b : List Byte) (s : State) :
    (offer p o b s).muted = s.muted := by
  unfold offer
  dsimp only
  split
  · split
    · exact State.muted_updPort s p _ rfl
    · split
      · exact muted_enqueue p _ s
      · split
        · rw [muted_setPending, State.muted_updPort _ _ _ rfl]
        · exact muted_egressDrop p s
  · exact muted_egressDrop p s

@[simp] theorem muted_replyTo (p : Port) (a n t r : Byte) (d : List Byte) (s : State) :
    (replyTo p a n t r d s).muted = s.muted := muted_offer ..

@[simp] theorem muted_reply (e : Env) (n t r : Byte) (d : List Byte) (s : State) :
    (reply e n t r d s).muted = s.muted := muted_replyTo ..

@[simp] theorem muted_forwardBroadcast (e : Env) (k : Byte) (b : List Byte) (s : State) :
    (forwardBroadcast e k b s).muted = s.muted := by
  unfold forwardBroadcast
  split
  · split <;> simp
  · rfl

@[simp] theorem muted_sendTally (p : PanelIndex) (n : KeyNumber) (t : Tally) (s : State) :
    (sendTally p n t s).muted = s.muted := by
  unfold sendTally
  split <;> simp

@[simp] theorem muted_sendListen (p : PanelIndex) (l : List Byte) (s : State) :
    (sendListen p l s).muted = s.muted := by
  unfold sendListen
  split <;> simp

@[simp] theorem muted_listenFor (p : PanelIndex) (s : State) : (listenFor p s).muted = s.muted := by
  unfold listenFor
  split <;> simp

@[simp] theorem muted_sendPageFor (e : ContributorEntry) (b : List Byte) (s : State) :
    (sendPageFor e b s).muted = s.muted := by
  unfold sendPageFor
  split <;> simp

@[simp] theorem muted_sendPage (c : ContribIndex) (b : List Byte) (s : State) :
    (sendPage c b s).muted = s.muted := muted_sendPageFor ..

@[simp] theorem muted_contributorNotice (c : ContribIndex) (s : State) :
    (contributorNotice c s).muted = s.muted := muted_raiseNotice ..

@[simp] theorem muted_clockNotice (s : State) : (clockNotice s).muted = s.muted := muted_raiseNotice ..

@[simp] theorem muted_portNotice (p : Port) (s : State) : (portNotice p s).muted = s.muted :=
  muted_raiseNotice ..

@[simp] theorem muted_noticesPending (q : List EgressEntry) (s : State) :
    (noticesPending q s).muted = s.muted := by
  refine foldl_keeps State.muted _ (fun s e => ?_) q s
  split <;> simp

@[simp] theorem muted_takeReply (t : Option PendingTake) (s : State) :
    (takeReply t s).muted = s.muted := by
  unfold takeReply
  split <;> simp

@[simp] theorem muted_cancelledReply (t : Option PendingTake) (s : State) :
    (cancelledReply t s).muted = s.muted := by
  unfold cancelledReply
  split <;> simp

@[simp] theorem muted_takeNotice (b : Byte) (s : State) : (takeNotice b s).muted = s.muted :=
  muted_raiseNotice ..

end Sys2Proof.Machine
end

