-- ==== Sys2Proof/Laws/Talk.lean ====
section
/-! SUPPORT. What the operations on tallies, talks, claims and contexts can do: they change the Talk
Arbiter, the Mix Engine's lane terms, the contexts and messages, and nothing else (`State.base`). -/

namespace Sys2Proof.Machine

/-- States with one `muted` have one `base`. -/
theorem State.base_of_muted {s t : State} (h : t.muted = s.muted) : t.base = s.base := by
  simp only [State.base, h]

/-- States with one `base` agree on every field that it keeps. -/
theorem State.base_agree {s t : State} (h : t.base = s.base) :
    t.straps = s.straps ∧ t.unit = s.unit ∧ t.clock = s.clock ∧ t.counters = s.counters ∧
      t.store = s.store ∧ t.choices = s.choices ∧ t.pending = s.pending := by
  refine ⟨?_, ?_, ?_, ?_, ?_, ?_, ?_⟩
  · have e := congrArg State.straps h; exact e
  · have e := congrArg State.unit h; exact e
  · have e := congrArg State.clock h; exact e
  · have e := congrArg State.counters h; exact e
  · have e := congrArg State.store h; exact e
  · have e := congrArg State.choices h; exact e
  · have e := congrArg State.pending h; exact e

section updates
variable (s : State)

@[simp] theorem State.base_updTalk (f : TalkArbiter → TalkArbiter) : (s.updTalk f).base = s.base := rfl
@[simp] theorem State.base_updKey (k : KeyIndex) (f : KeyRun → KeyRun) : (s.updKey k f).base = s.base := rfl
@[simp] theorem State.base_updDest (d : Dest) (f : Arbitration → Arbitration) :
    (s.updDest d f).base = s.base := rfl
@[simp] theorem State.base_updMix (d : Dest) (f : MixState → MixState) : (s.updMix d f).base = s.base := rfl
@[simp] theorem State.base_updTerm (d : Dest) (l : LaneNo) (f : LaneTerm → LaneTerm) :
    (s.updTerm d l f).base = s.base := rfl
@[simp] theorem State.base_updContext (c : ContribIndex) (f : Context → Context) :
    (s.updContext c f).base = s.base := rfl
@[simp] theorem State.base_withMix (m : Vector MixState 128) : ({ s with mix := m }).base = s.base := rfl

end updates

theorem base_raiseNotice (k : NoticeClass) (d : Detail) (s : State) :
    (raiseNotice k d s).base = s.base := State.base_of_muted (muted_raiseNotice k d s)

@[simp] theorem base_setLastTally (p : PanelIndex) (n : KeyNumber) (t : Tally) (s : State) :
    (setLastTally p n t s).base = s.base := rfl

@[simp] theorem base_sendTally (p : PanelIndex) (n : KeyNumber) (t : Tally) (s : State) :
    (sendTally p n t s).base = s.base := State.base_of_muted (by simp)

@[simp] theorem base_refreshPosition (p : PanelIndex) (n : KeyNumber) (s : State) :
    (refreshPosition p n s).base = s.base := by
  unfold refreshPosition
  dsimp only
  split <;> simp

@[simp] theorem base_refreshPositions (l : List Position) (s : State) :
    (refreshPositions l s).base = s.base :=
  foldl_keeps State.base _ (fun s _ => by simp) _ s

@[simp] theorem base_refreshCall (c : ContribIndex) (s : State) :
    (refreshCall c s).base = s.base := by
  exact base_refreshPositions _ s

@[simp] theorem base_refreshKey (k : KeyIndex) (s : State) :
    (refreshKey k s).base = s.base := by
  exact base_refreshPositions _ s

@[simp] theorem base_refreshClaim (c : Claim) (s : State) :
    (refreshClaim c s).base = s.base := by
  exact base_refreshPositions _ s

@[simp] theorem base_refreshTallies (s : State) :
    (refreshTallies s).base = s.base := by
  exact base_refreshPositions _ s

@[simp] theorem base_refreshAllTallies (s : State) :
    (refreshAllTallies s).base = s.base := by
  exact base_refreshPositions _ s

@[simp] theorem base_sendListen (p : PanelIndex) (l : List Byte) (s : State) :
    (sendListen p l s).base = s.base := State.base_of_muted (by simp)

@[simp] theorem base_refreshTalkers (d : Dest) (s : State) :
    (refreshTalkers d s).base = s.base := by
  unfold refreshTalkers
  dsimp only
  split
  · rfl
  · rw [foldl_keeps State.base _ (fun s p => base_sendListen p _ s)]; rfl

@[simp] theorem base_refreshTalkerLists (s : State) :
    (refreshTalkerLists s).base = s.base :=
  foldl_keeps State.base _ (fun s _ => by simp) _ s

@[simp] theorem base_listenFor (p : PanelIndex) (s : State) :
    (listenFor p s).base = s.base := State.base_of_muted (by simp)

@[simp] theorem base_refreshTalk (s : State) :
    (refreshTalk s).base = s.base := by
  unfold refreshTalk
  simp

@[simp] theorem base_sendPage (c : ContribIndex) (b : List Byte) (s : State) :
    (sendPage c b s).base = s.base := State.base_of_muted (by simp)

@[simp] theorem base_sendPageFor (c : ContributorEntry) (b : List Byte) (s : State) :
    (sendPageFor c b s).base = s.base := State.base_of_muted (by simp)

@[simp] theorem base_contributorNotice (c : ContribIndex) (s : State) :
    (contributorNotice c s).base = s.base := State.base_of_muted (by simp)

@[simp] theorem base_pageErr (c : ContribIndex) (s : State) :
    (pageErr c s).base = s.base := rfl

@[simp] theorem base_enterState (c : ContribIndex) (n : LinkState) (s : State) :
    (enterState c n s).base = s.base := by
  unfold enterState
  split <;> simp

@[simp] theorem base_changeState (c : ContribIndex) (n : LinkState) (s : State) :
    (changeState c n s).base = s.base := by
  unfold changeState
  split <;> simp

@[simp] theorem base_clearCalling (c : ContribIndex) (s : State) :
    (clearCalling c s).base = s.base := rfl

@[simp] theorem base_closeContext (c : ContribIndex) (s : State) :
    (closeContext c s).base = s.base := rfl

@[simp] theorem base_goDown (c : ContribIndex) (s : State) :
    (goDown c s).base = s.base := by
  unfold goDown
  simp

@[simp] theorem base_loss (c : ContribIndex) (s : State) :
    (loss c s).base = s.base := by
  unfold loss
  simp

@[simp] theorem base_sendEcho (c : ContribIndex) (s : State) :
    (sendEcho c s).base = s.base := by
  unfold sendEcho
  simp

@[simp] theorem base_sendDelay (c : ContribIndex) (s : State) :
    (sendDelay c s).base = s.base := by
  unfold sendDelay
  simp

@[simp] theorem base_enterActive (c : ContribIndex) (s : State) :
    (enterActive c s).base = s.base := by
  unfold enterActive
  simp

@[simp] theorem base_takeSample (c : ContribIndex) (n : Nat) (s : State) :
    (takeSample c n s).base = s.base := by
  unfold takeSample
  dsimp only
  split <;> simp

@[simp] theorem base_enterNegotiating (c : ContribIndex) (s : State) :
    (enterNegotiating c s).base = s.base := by
  unfold enterNegotiating
  simp

@[simp] theorem base_sendReplyPage (c : ContribIndex) (f : PageFlags → Page) (b : Bool) (s : State) :
    (sendReplyPage c f b s).base = s.base := by
  unfold sendReplyPage
  simp

@[simp] theorem base_sendBase (c : ContribIndex) (b : Bool) (s : State) :
    (sendBase c b s).base = s.base := by
  unfold sendBase
  simp

@[simp] theorem base_completeNegotiation (c : ContribIndex) (s : State) :
    (completeNegotiation c s).base = s.base := by
  unfold completeNegotiation
  dsimp only
  split <;> simp

@[simp] theorem base_acceptBase (c : ContribIndex) (f : PageFlags) (o : Abilities) (s : State) :
    (acceptBase c f o s).base = s.base := by
  unfold acceptBase
  split <;> simp

@[simp] theorem base_resendReply (c : ContribIndex) (s : State) :
    (resendReply c s).base = s.base := by
  unfold resendReply
  split <;> simp

@[simp] theorem base_setPageFrame (c : ContribIndex) (s : State) :
    (setPageFrame c s).base = s.base := rfl

@[simp] theorem base_takeBase (c : ContribIndex) (f : PageFlags) (o : Abilities) (s : State) :
    (takeBase c f o s).base = s.base := by
  unfold takeBase
  dsimp only
  (repeat' split) <;> simp

@[simp] theorem base_acceptNext (c : ContribIndex) (f : PageFlags) (g : Context → Context) (s : State) :
    (acceptNext c f g s).base = s.base := by
  unfold acceptNext
  split <;> simp

@[simp] theorem base_takeNext (c : ContribIndex) (f : PageFlags) (g : Context → Context) (s : State) :
    (takeNext c f g s).base = s.base := by
  unfold takeNext
  dsimp only
  (repeat' split) <;> simp

@[simp] theorem base_enterWaking (c : ContribIndex) (s : State) :
    (enterWaking c s).base = s.base := by
  unfold enterWaking
  simp

@[simp] theorem base_claimActivated (d : Dest) (s : State) :
    (claimActivated d s).base = s.base := by
  unfold claimActivated
  (repeat' split) <;> simp

@[simp] theorem base_takeResume (c : ContribIndex) (s : State) :
    (takeResume c s).base = s.base := by
  unfold takeResume
  split <;> simp

@[simp] theorem base_takeCall (c : ContribIndex) (s : State) :
    (takeCall c s).base = s.base := by
  unfold takeCall
  dsimp only
  (repeat' split) <;> simp [base_raiseNotice]

@[simp] theorem base_acknowledgeCall (c : ContribIndex) (s : State) :
    (acknowledgeCall c s).base = s.base := rfl

@[simp] theorem base_takeEchoBack (c : ContribIndex) (v : BitVec 24) (s : State) :
    (takeEchoBack c v s).base = s.base := by
  unfold takeEchoBack
  dsimp only
  (repeat' split) <;> simp

@[simp] theorem base_takeClose (c : ContribIndex) (s : State) :
    (takeClose c s).base = s.base := by
  unfold takeClose
  dsimp only
  split <;> simp

@[simp] theorem base_takeCloseAck (c : ContribIndex) (s : State) :
    (takeCloseAck c s).base = s.base := by
  unfold takeCloseAck
  split <;> simp

@[simp] theorem base_negotiationTimeout (c : ContribIndex) (s : State) :
    (negotiationTimeout c s).base = s.base := by
  unfold negotiationTimeout
  dsimp only
  (repeat' split) <;> simp

@[simp] theorem base_echoDue (c : ContribIndex) (s : State) :
    (echoDue c s).base = s.base := by
  unfold echoDue
  dsimp only
  (repeat' split) <;> simp

@[simp] theorem base_wakeExpiry (c : ContribIndex) (s : State) :
    (wakeExpiry c s).base = s.base := by
  unfold wakeExpiry
  dsimp only
  (repeat' split) <;> simp

@[simp] theorem base_closeTimeout (c : ContribIndex) (s : State) :
    (closeTimeout c s).base = s.base := by
  unfold closeTimeout
  dsimp only
  split <;> simp

@[simp] theorem base_takePage (g : Page) (c : ContribIndex) (s : State) :
    (takePage g c s).base = s.base := by
  cases g <;> simp [takePage]

@[simp] theorem base_setLane (d : Dest) (l : LaneNo) (x : Lane) (s : State) :
    (setLane d l x s).base = s.base := rfl

@[simp] theorem base_setQueue (d : Dest) (q : List Claim) (s : State) :
    (setQueue d q s).base = s.base := rfl

@[simp] theorem base_losesAll (d : Dest) (c : Claim) (s : State) :
    (losesAll d c s).base = s.base := by
  unfold losesAll
  rw [base_refreshClaim]
  exact foldl_keeps State.base _ (fun s _ => by simp) _ s

@[simp] theorem base_activate (d : Dest) (l : LaneNo) (c : Claim) (s : State) :
    (activate d l c s).base = s.base := by
  unfold activate
  simp

@[simp] theorem base_returnToQueue (d : Dest) (c : Claim) (s : State) :
    (returnToQueue d c s).base = s.base := by
  unfold returnToQueue
  dsimp only
  (repeat' split) <;> simp

@[simp] theorem base_preempt (d : Dest) (l : LaneNo) (o c : Claim) (s : State) :
    (preempt d l o c s).base = s.base := by
  unfold preempt
  simp

@[simp] theorem base_insertNew (d : Dest) (c : Claim) (s : State) :
    (insertNew d c s).1.base = s.base := by
  unfold insertNew
  dsimp only
  (repeat' split) <;> simp

@[simp] theorem base_placeNew (d : Dest) (c : Claim) (s : State) :
    (placeNew d c s).1.base = s.base := by
  unfold placeNew
  dsimp only
  (repeat' split) <;> simp

@[simp] theorem base_placeRisen (d : Dest) (c : Claim) (s : State) :
    (placeRisen d c s).base = s.base := by
  unfold placeRisen
  (repeat' split) <;> simp

@[simp] theorem base_putClaim (d : Dest) (p : Place) (c : Claim) (s : State) :
    (putClaim d p c s).base = s.base := by
  unfold putClaim
  split <;> simp

@[simp] theorem base_joinClaim (d : Dest) (p : Place) (c : Claim) (r : Ref) (s : State) :
    (joinClaim d p c r s).1.base = s.base := by
  unfold joinClaim
  dsimp only
  (repeat' split) <;> simp

@[simp] theorem base_seekClaim (x : Source) (r : Ref) (d : Dest) (s : State) :
    (seekClaim x r d s).1.base = s.base := by
  unfold seekClaim
  dsimp only
  (repeat' split) <;> simp

@[simp] theorem base_promote (d : Dest) (l : LaneNo) (s : State) :
    (promote d l s).base = s.base := by
  unfold promote
  (repeat' split) <;> simp

@[simp] theorem base_leavePlace (d : Dest) (p : Place) (c : Claim) (s : State) :
    (leavePlace d p c s).base = s.base := by
  unfold leavePlace
  split <;> simp

@[simp] theorem base_demote (d : Dest) (n : Nat) (s : State) :
    (demote d n s).base = s.base := by
  induction n generalizing s with
  | zero => rfl
  | succ n ih =>
    unfold demote
    (repeat' split) <;> simp [ih]

@[simp] theorem base_removeRef (k : KeyIndex) (i : ClaimId) (s : State) :
    (removeRef k i s).base = s.base := by
  unfold removeRef
  dsimp only
  (repeat' split) <;> simp

@[simp] theorem base_releaseTalk (k : KeyIndex) (s : State) :
    (releaseTalk k s).base = s.base := by
  unfold releaseTalk
  split
  · rw [base_refreshKey, foldl_keeps State.base _ (fun s i => base_removeRef k i s)]; rfl
  · rfl

@[simp] theorem base_answerDrained (d : Dest) (l : LaneNo) (s : State) :
    (answerDrained d l s).base = s.base := by
  unfold answerDrained
  (repeat' split) <;> simp

@[simp] theorem base_cutLane (d : Dest) (l : LaneNo) (s : State) :
    (cutLane d l s).base = s.base := rfl

@[simp] theorem base_excludeTalker (d : Dest) (x : Source) (s : State) :
    (excludeTalker d x s).base = s.base := by
  unfold excludeTalker
  split <;> simp

@[simp] theorem base_refuseTalk (d : Dest) (s : State) :
    (refuseTalk d s).base = s.base := by
  unfold refuseTalk
  dsimp only
  rw [foldl_keeps State.base _ (fun s l => ?_), foldl_keeps State.base _ (fun s c => base_losesAll d c s)]
  · rfl
  · split <;> simp

@[simp] theorem base_refuseKey (k : KeyIndex) (s : State) :
    (refuseKey k s).base = s.base := rfl

@[simp] theorem base_seekAll (x : Source) (r : Ref) (l : List Dest) (s : State) :
    (seekAll x r l s).1.base = s.base := by
  induction l generalizing s with
  | nil => rfl
  | cons d l ih => simp [seekAll, ih]

@[simp] theorem base_beginTalk (k : KeyIndex) (s : State) :
    (beginTalk k s).base = s.base := by
  unfold beginTalk
  dsimp only
  (repeat' split) <;> simp

@[simp] theorem base_setPos (k : KeyIndex) (p : KeyPos) (s : State) :
    (setPos k p s).base = s.base := rfl

@[simp] theorem base_downOn (k : KeyIndex) (s : State) :
    (downOn k s).base = s.base := by
  unfold downOn
  dsimp only
  (repeat' split) <;> simp

@[simp] theorem base_latchTalk (k : KeyIndex) (s : State) :
    (latchTalk k s).base = s.base := rfl

@[simp] theorem base_upOn (k : KeyIndex) (s : State) :
    (upOn k s).base = s.base := by
  unfold upOn
  dsimp only
  (repeat' split) <;> simp

@[simp] theorem base_answerCalls (p : PanelIndex) (n : KeyNumber) (s : State) :
    (answerCalls p n s).base = s.base :=
  foldl_keeps State.base _ (fun s _ => by simp) _ s

@[simp] theorem base_setMaster (d : Dest) (b : Byte) (s : State) :
    (setMaster d b s).base = s.base := rfl

@[simp] theorem base_autoThreshold (k : KeyIndex) (s : State) :
    (autoThreshold k s).base = s.base := by
  unfold autoThreshold
  split <;> simp

@[simp] theorem base_releaseOther (k : KeyIndex) (s : State) :
    (releaseOther k s).base = s.base := by
  unfold releaseOther
  simp

@[simp] theorem base_latchTimeout (k : KeyIndex) (s : State) :
    (latchTimeout k s).base = s.base := by
  unfold latchTimeout
  split <;> simp

@[simp] theorem base_releaseToUp (k : KeyIndex) (s : State) :
    (releaseToUp k s).base = s.base := by
  unfold releaseToUp
  simp

@[simp] theorem base_releasePort (p : Port) (s : State) :
    (releasePort p s).base = s.base :=
  foldl_keeps State.base _ (fun s k => base_releaseToUp k s) _ s

@[simp] theorem base_clearAllTalk (s : State) :
    (clearAllTalk s).base = s.base := by
  unfold clearAllTalk
  rw [base_refreshTalk]
  rfl

end Sys2Proof.Machine
end

