-- ==== Sys2Proof/Laws/Links.lean ====
section
/-! SUPPORT. What the operations on one contributor's link can do (`LinkStep`), and what the refreshing of
tallies and talker lists can do. -/

namespace Sys2Proof.Machine

/-! ### `unlinked` -/

/-- States with one `muted` have one `unlinked`. -/
theorem State.unlinked_of_muted {s t : State} (h : t.muted = s.muted) : t.unlinked = s.unlinked := by
  have a := State.muted_agree h
  simp only [State.unlinked, h, a.2.2.2.2.2.1]

@[simp] theorem State.unlinked_updContext (s : State) (c : ContribIndex) (f : Context → Context) :
    (s.updContext c f).unlinked = s.unlinked := rfl

@[simp] theorem unlinked_setLastTally (p : PanelIndex) (n : KeyNumber) (t : Tally) (s : State) :
    (setLastTally p n t s).unlinked = s.unlinked := rfl

@[simp] theorem unlinked_clearCalling (c : ContribIndex) (s : State) :
    (clearCalling c s).unlinked = s.unlinked := rfl

/-- States with one `unlinked` agree on every field that it keeps. -/
theorem State.unlinked_agree {s t : State} (h : t.unlinked = s.unlinked) :
    t.straps = s.straps ∧ t.unit = s.unit ∧ t.clock = s.clock ∧ t.counters = s.counters ∧
      t.store = s.store ∧ t.mix = s.mix ∧ t.talk.keys = s.talk.keys ∧ t.talk.dests = s.talk.dests ∧
      t.choices = s.choices ∧ t.pending = s.pending := by
  refine ⟨?_, ?_, ?_, ?_, ?_, ?_, ?_, ?_, ?_, ?_⟩
  · have e := congrArg State.straps h; exact e
  · have e := congrArg State.unit h; exact e
  · have e := congrArg State.clock h; exact e
  · have e := congrArg State.counters h; exact e
  · have e := congrArg State.store h; exact e
  · have e := congrArg State.mix h; exact e
  · have e := congrArg (fun u => u.talk.keys) h; exact e
  · have e := congrArg (fun u => u.talk.dests) h; exact e
  · have e := congrArg State.choices h; exact e
  · have e := congrArg State.pending h; exact e

/-! ### Refreshing tallies (R111) -/

/-- What the refreshing of tallies leaves: all but messages and last tallies. -/
structure Refreshed (s t : State) : Prop where
  rest     : t.unlinked = s.unlinked
  contexts : t.contexts = s.contexts
  calling  : t.talk.calling = s.talk.calling

theorem Refreshed.refl (s : State) : Refreshed s s := ⟨rfl, rfl, rfl⟩

theorem Refreshed.trans {s t u : State} (h : Refreshed s t) (g : Refreshed t u) : Refreshed s u :=
  ⟨g.rest.trans h.rest, g.contexts.trans h.contexts, g.calling.trans h.calling⟩

theorem Refreshed.of_muted {s t : State} (h : t.muted = s.muted) : Refreshed s t := by
  have a := State.muted_agree h
  exact ⟨State.unlinked_of_muted h, a.2.2.2.2.2.2.2.1, by rw [a.2.2.2.2.2.1]⟩

theorem refreshed_foldl {α : Type} (f : State → α → State) (h : ∀ s a, Refreshed s (f s a)) (l : List α)
    (s : State) : Refreshed s (l.foldl f s) := by
  induction l generalizing s with
  | nil => exact .refl s
  | cons a l ih => exact (h s a).trans (ih _)

theorem refreshed_refreshPosition (p : PanelIndex) (n : KeyNumber) (s : State) :
    Refreshed s (refreshPosition p n s) := by
  unfold refreshPosition
  dsimp only
  split
  · exact .refl s
  · have h : Refreshed s (setLastTally p n (displayed s p n) s) := ⟨rfl, rfl, rfl⟩
    exact h.trans (.of_muted (muted_sendTally ..))

theorem refreshed_refreshPositions (l : List Position) (s : State) : Refreshed s (refreshPositions l s) :=
  refreshed_foldl (fun s (a : Position) => refreshPosition a.1 a.2 s)
    (fun s a => refreshed_refreshPosition a.1 a.2 s) _ s

theorem refreshed_refreshTallies (s : State) : Refreshed s (refreshTallies s) :=
  refreshed_refreshPositions _ s

theorem refreshed_refreshCall (c : ContribIndex) (s : State) : Refreshed s (refreshCall c s) :=
  refreshed_refreshPositions _ s

/-! ### Steps of one link -/

/-- A step of one link is followed by what leaves contexts and marks. -/
theorem LinkStep.then {c : ContribIndex} {x : Context} {b : Bool} {s t u : State}
    (h : LinkStep c x b s t) (g : Refreshed t u) : LinkStep c x b s u :=
  ⟨g.contexts.trans h.contexts, g.calling.trans h.calling, g.rest.trans h.rest⟩

/-- What leaves contexts and marks is followed by a step of one link. -/
theorem LinkStep.after {c : ContribIndex} {x : Context} {b : Bool} {s t u : State}
    (h : Refreshed s t) (g : LinkStep c x b t u) : LinkStep c x b s u :=
  ⟨by rw [g.contexts, h.contexts], by rw [g.calling, h.calling], g.rest.trans h.rest⟩

theorem vector_set_self {α : Type} {n : Nat} (v : Vector α n) (i : Fin n) : v.set i v[i] = v := by
  apply Vector.ext
  intro j hj
  rw [Vector.getElem_set]
  split
  · next e => subst e; rfl
  · rfl

theorem vector_set_set {α : Type} {n : Nat} (v : Vector α n) (i : Fin n) (a b : α) :
    (v.set i a).set i b = v.set i b := by
  apply Vector.ext
  intro j hj
  simp only [Vector.getElem_set]
  split <;> rfl

/-- Two steps of one link. -/
theorem LinkStep.trans {c : ContribIndex} {x y : Context} {b b' : Bool} {s t u : State}
    (h : LinkStep c x b s t) (g : LinkStep c y b' t u) : LinkStep c y b' s u :=
  ⟨by rw [g.contexts, h.contexts, vector_set_set], by rw [g.calling, h.calling, vector_set_set],
   g.rest.trans h.rest⟩

theorem LinkStep.context {c : ContribIndex} {x : Context} {b : Bool} {s t : State}
    (h : LinkStep c x b s t) : t.contexts[c] = x := by
  rw [h.contexts]; exact Vector.getElem_set_self _

theorem LinkStep.called {c : ContribIndex} {x : Context} {b : Bool} {s t : State}
    (h : LinkStep c x b s t) : t.talk.calling[c] = b := by
  rw [h.calling]; exact Vector.getElem_set_self _

/-- A step of one link leaves the clock, the tables and the rest of the talk. -/
theorem LinkStep.agree {c : ContribIndex} {x : Context} {b : Bool} {s t : State} (h : LinkStep c x b s t) :
    t.clock = s.clock ∧ t.store = s.store ∧ t.unit = s.unit ∧ t.now = s.now := by
  have a := State.unlinked_agree h.rest
  exact ⟨a.2.2.1, a.2.2.2.2.1, a.2.1, by unfold State.now; rw [a.2.2.1]⟩

theorem linkStep_updContext (c : ContribIndex) (f : Context → Context) (s : State) :
    LinkStep c (f s.contexts[c]) s.talk.calling[c] s (s.updContext c f) :=
  ⟨rfl, (vector_set_self _ _).symm, rfl⟩

theorem linkStep_refl (c : ContribIndex) (s : State) :
    LinkStep c s.contexts[c] s.talk.calling[c] s s :=
  ⟨(vector_set_self _ _).symm, (vector_set_self _ _).symm, rfl⟩

/-- R152: a change of state, before the tallies follow. -/
theorem linkStep_enterState (c : ContribIndex) (n : LinkState) (s : State) :
    LinkStep c { s.contexts[c] with state := n } s.talk.calling[c] s (enterState c n s) := by
  unfold enterState
  split
  · next h => rw [← h]; exact linkStep_refl c s
  · exact (linkStep_updContext c (fun x => { x with state := n }) s).then
      (Refreshed.of_muted (muted_contributorNotice c _))

/-- R152: a change of state. -/
theorem linkStep_changeState (c : ContribIndex) (n : LinkState) (s : State) :
    LinkStep c { s.contexts[c] with state := n } s.talk.calling[c] s (changeState c n s) := by
  unfold changeState
  split
  · exact linkStep_enterState c n s
  · exact (linkStep_enterState c n s).then (refreshed_refreshTallies _)

/-- R149: what a link that enters DOWN loses at once. -/
theorem linkStep_closeContext (c : ContribIndex) (s : State) :
    LinkStep c s.contexts[c].entered false s (closeContext c s) := ⟨rfl, rfl, rfl⟩

/-- R149: a link goes DOWN. -/
theorem linkStep_goDown (c : ContribIndex) (s : State) :
    LinkStep c s.contexts[c].closed false s (goDown c s) := by
  unfold goDown
  refine LinkStep.then ?_ (refreshed_refreshCall _ _)
  have h := linkStep_closeContext c s
  have g := h.trans (linkStep_changeState c .down _)
  rw [h.context, h.called] at g
  exact g

/-- R150: a loss. -/
theorem linkStep_loss (c : ContribIndex) (s : State) :
    LinkStep c s.contexts[c].lost false s (loss c s) := by
  have h := linkStep_updContext c (fun x => { x with lossMark := true, losses := bump x.losses }) s
  have g := h.trans (linkStep_goDown c _)
  rw [h.context] at g
  exact g

theorem linkStep_sendEcho (c : ContribIndex) (s : State) :
    LinkStep c
      { s.contexts[c] with
        echoFrame := s.now, latestStamp := s.now.setWidth 24, echoOutstanding := true }
      s.talk.calling[c] s (sendEcho c s) :=
  (linkStep_updContext c (fun x =>
    { x with echoFrame := s.now, latestStamp := s.now.setWidth 24, echoOutstanding := true }) s).then
      (.of_muted (muted_sendPage ..))

theorem linkStep_sendDelay (c : ContribIndex) (s : State) :
    LinkStep c { s.contexts[c] with lastReported := s.contexts[c].average.getD 0 }
      s.talk.calling[c] s (sendDelay c s) :=
  (linkStep_updContext c (fun x => { x with lastReported := s.contexts[c].average.getD 0 }) s).then
    (.of_muted (muted_sendPage ..))

/-- R141, R145, R148: a link enters ACTIVE. -/
theorem linkStep_enterActive (c : ContribIndex) (s : State) :
    LinkStep c (s.contexts[c].opened s.now) s.talk.calling[c] s (enterActive c s) := by
  unfold enterActive
  dsimp only
  have h := linkStep_updContext c (fun x =>
    { x with missCount := 0, echoOutstanding := false, wakeAttempts := 0, average := none
             longDelay := false }) s
  have h₁ := h.trans (linkStep_changeState c .active _)
  rw [h.context, h.called] at h₁
  have h₂ := h₁.trans (linkStep_sendDelay c _)
  rw [h₁.context, h₁.called] at h₂
  have h₃ := h₂.trans (linkStep_sendEcho c _)
  rw [h₂.context, h₂.called, h₂.agree.2.2.2] at h₃
  exact h₃

/-- R145: a link enters WAKING. -/
theorem linkStep_enterWaking (c : ContribIndex) (s : State) :
    LinkStep c (s.contexts[c].woken s.now) s.talk.calling[c] s (enterWaking c s) := by
  unfold enterWaking
  dsimp only
  have h := (linkStep_updContext c (fun x =>
    { x with wakeAttempts := 1, wakeFrame := s.now, echoOutstanding := false, missCount := 0 }) s).then
      (Refreshed.of_muted (muted_sendPage c wakePage _))
  have g := h.trans (linkStep_changeState c .waking _)
  rw [h.context, h.called] at g
  exact g

/-- R138: a link enters NEGOTIATING. -/
theorem linkStep_enterNegotiating (c : ContribIndex) (s : State) :
    LinkStep c { (s.contexts[c].negotiationBegun s.now) with state := .negotiating } s.talk.calling[c] s
      (enterNegotiating c s) := by
  unfold enterNegotiating
  have h := linkStep_updContext c (fun x => x.negotiationBegun s.now) s
  have g := h.trans (linkStep_changeState c .negotiating _)
  rw [h.context, h.called] at g
  exact g

/-- Section 8.3: a negotiation page is sent. -/
theorem linkStep_sendReplyPage (c : ContribIndex) (page : PageFlags → Page) (ack : Bool) (s : State) :
    LinkStep c
      { s.contexts[c] with
        partToggle := !s.contexts[c].partToggle
        lastReply := some (page ⟨!s.contexts[c].partToggle, ack, false⟩).payload }
      s.talk.calling[c] s (sendReplyPage c page ack s) :=
  (linkStep_updContext c (fun x =>
    { x with
      partToggle := !s.contexts[c].partToggle
      lastReply := some (page ⟨!s.contexts[c].partToggle, ack, false⟩).payload }) s).then
    (.of_muted (muted_sendPage ..))

/-! ### What a command on a link does (Table 8-5) -/

/-- The answer to an action leaves the link as the action left it. -/
theorem refreshed_commandDone (e : Env) (tag : Byte) (c : ContribIndex) (s : State) :
    Refreshed s (commandDone e tag c s) := .of_muted (muted_reply ..)

/-- R138, R143: RESTART. -/
theorem linkStep_commandRestart (c : ContribIndex) (s : State) :
    ∃ t, commandRestart c s = some t ∧
      LinkStep c
        { s.contexts[c] with
          state := .negotiating, partToggle := !s.contexts[c].partToggle, gatewayToggle := none
          lastReply := some
            (Page.base ⟨!s.contexts[c].partToggle, false, false⟩ s.live.contributors[c].offers).payload
          progress := .awaitBase, gatewayOffer := none, gatewayTolerance := none, gatewayIdent := none
          pageFrame := s.now, restartAttempts := 0, echoOutstanding := false, missCount := 0
          wakeAttempts := 0 }
        s.talk.calling[c] s t := by
  refine ⟨_, rfl, ?_⟩
  have h := linkStep_enterNegotiating c s
  have h₁ := h.trans (linkStep_updContext c (fun x => { x with gatewayToggle := none, progress := .awaitBase }) _)
  rw [h.context, h.called] at h₁
  have h₂ := h₁.trans (linkStep_sendReplyPage c
    (fun f => .base f (State.live (State.updContext (enterNegotiating c s) c fun x =>
      { x with gatewayToggle := none, progress := .awaitBase })).contributors[c].offers) false _)
  rw [h₁.context, h₁.called] at h₂
  have hl : (State.live (State.updContext (enterNegotiating c s) c fun x =>
      { x with gatewayToggle := none, progress := .awaitBase })) = s.live := by
    unfold State.live; rw [h₁.agree.2.1]
  simp only [hl] at h₂
  simp only [sendBase, hl]
  exact h₂

/-- R143: a command that sends MODE and moves the link. -/
theorem linkStep_commandMode (allowed : Context → Bool) (new : LinkState) (mode : Byte) (c : ContribIndex)
    (s : State) :
    (allowed s.contexts[c] = false → commandMode allowed new mode c s = none) ∧
    (allowed s.contexts[c] = true → ∃ t, commandMode allowed new mode c s = some t ∧
      LinkStep c { s.contexts[c] with state := new } s.talk.calling[c] s t) := by
  unfold commandMode
  constructor
  · intro h; rw [if_neg (by rw [h]; decide)]
  · intro h
    refine ⟨_, by rw [if_pos h], ?_⟩
    have m := Refreshed.of_muted (muted_sendPage c (modePage mode) s)
    have g := linkStep_changeState c new (sendPage c (modePage mode) s)
    rw [m.contexts, m.calling] at g
    exact LinkStep.after m g

end Sys2Proof.Machine
end

