-- ==== Sys2Proof/Laws/Store.lean ====
section
/-! SUPPORT. What the operations of the Link Ports, the Frame Clock, a take and a frame start can do to
the tables and the queue of commands: nothing (`State.root`), but for the copy that a take makes. -/

namespace Sys2Proof.Machine

/-- States with one `base` have one `root`. -/
theorem root_of_base {s t : State} (h : t.base = s.base) : t.root = s.root := by
  obtain ⟨h1, h2, -, -, h3, -, h4⟩ := State.base_agree h
  simp only [State.root, h1, h2, h3, h4]

theorem root_of_muted {s t : State} (h : t.muted = s.muted) : t.root = s.root :=
  root_of_base (State.base_of_muted h)

section updates
variable (s : State)

@[simp] theorem State.root_updPort (p : Port) (f : PortState → PortState) : (s.updPort p f).root = s.root := rfl
@[simp] theorem State.root_updClock (f : Clock → Clock) : (s.updClock f).root = s.root := rfl
@[simp] theorem State.root_updTalk (f : TalkArbiter → TalkArbiter) : (s.updTalk f).root = s.root := rfl
@[simp] theorem State.root_updCounters (f : DeviceCounters → DeviceCounters) :
    (s.updCounters f).root = s.root := rfl
@[simp] theorem State.root_updContext (c : ContribIndex) (f : Context → Context) :
    (s.updContext c f).root = s.root := rfl

@[simp] theorem State.root_withMix (m : Vector MixState 128) : ({ s with mix := m }).root = s.root := rfl

end updates

@[simp] theorem root_raiseNotice (k : NoticeClass) (d : Detail) (s : State) :
    (raiseNotice k d s).root = s.root := root_of_muted (by simp)

@[simp] theorem root_goDown (c : ContribIndex) (s : State) :
    (goDown c s).root = s.root := root_of_base (by simp)

@[simp] theorem root_enterState (c : ContribIndex) (n : LinkState) (s : State) :
    (enterState c n s).root = s.root := root_of_base (by simp)

@[simp] theorem root_closeContext (c : ContribIndex) (s : State) :
    (closeContext c s).root = s.root := root_of_base (by simp)

@[simp] theorem root_clearCalling (c : ContribIndex) (s : State) :
    (clearCalling c s).root = s.root := root_of_base (by simp)

@[simp] theorem root_sendPageFor (c : ContributorEntry) (b : List Byte) (s : State) :
    (sendPageFor c b s).root = s.root := root_of_base (by simp)

@[simp] theorem root_excludeTalker (d : Dest) (x : Source) (s : State) :
    (excludeTalker d x s).root = s.root := root_of_base (by simp)

@[simp] theorem root_refuseTalk (d : Dest) (s : State) :
    (refuseTalk d s).root = s.root := root_of_base (by simp)

@[simp] theorem root_setMaster (d : Dest) (b : Byte) (s : State) :
    (setMaster d b s).root = s.root := root_of_base (by simp)

@[simp] theorem root_releaseToUp (k : KeyIndex) (s : State) :
    (releaseToUp k s).root = s.root := root_of_base (by simp)

@[simp] theorem root_releaseOther (k : KeyIndex) (s : State) :
    (releaseOther k s).root = s.root := root_of_base (by simp)

@[simp] theorem root_refreshAllTallies (s : State) :
    (refreshAllTallies s).root = s.root := root_of_base (by simp)

@[simp] theorem root_refreshTalkerLists (s : State) :
    (refreshTalkerLists s).root = s.root := root_of_base (by simp)

@[simp] theorem root_refreshTalk (s : State) :
    (refreshTalk s).root = s.root := root_of_base (by simp)

@[simp] theorem root_answerDrained (d : Dest) (l : LaneNo) (s : State) :
    (answerDrained d l s).root = s.root := root_of_base (by simp)

@[simp] theorem root_latchTimeout (k : KeyIndex) (s : State) :
    (latchTimeout k s).root = s.root := root_of_base (by simp)

@[simp] theorem root_autoThreshold (k : KeyIndex) (s : State) :
    (autoThreshold k s).root = s.root := root_of_base (by simp)

@[simp] theorem root_closeTimeout (c : ContribIndex) (s : State) :
    (closeTimeout c s).root = s.root := root_of_base (by simp)

@[simp] theorem root_wakeExpiry (c : ContribIndex) (s : State) :
    (wakeExpiry c s).root = s.root := root_of_base (by simp)

@[simp] theorem root_echoDue (c : ContribIndex) (s : State) :
    (echoDue c s).root = s.root := root_of_base (by simp)

@[simp] theorem root_negotiationTimeout (c : ContribIndex) (s : State) :
    (negotiationTimeout c s).root = s.root := root_of_base (by simp)

@[simp] theorem root_sendTally (p : PanelIndex) (n : KeyNumber) (t : Tally) (s : State) :
    (sendTally p n t s).root = s.root := root_of_base (by simp)

@[simp] theorem root_clockNotice (s : State) :
    (clockNotice s).root = s.root := root_of_muted (by simp)

@[simp] theorem root_takeReference (p : Port) (s : State) :
    (takeReference p s).root = s.root := by
  unfold takeReference
  simp

@[simp] theorem root_enterHoldover (s : State) :
    (enterHoldover s).root = s.root := by
  unfold enterHoldover
  simp

@[simp] theorem root_leaveReference (s : State) :
    (leaveReference s).root = s.root := by
  unfold leaveReference
  split <;> simp

@[simp] theorem root_referenceGone (p : Port) (s : State) :
    (referenceGone p s).root = s.root := by
  unfold referenceGone
  split <;> simp

@[simp] theorem root_selectReference (s : State) :
    (selectReference s).root = s.root := by
  unfold selectReference
  (repeat' split) <;> simp

@[simp] theorem root_revertReference (s : State) :
    (revertReference s).root = s.root := by
  unfold revertReference
  (repeat' split) <;> simp

@[simp] theorem root_closeTraining (s : State) :
    (closeTraining s).root = s.root := by
  unfold closeTraining
  (repeat' split) <;> simp

@[simp] theorem root_portNotice (p : Port) (s : State) :
    (portNotice p s).root = s.root := root_of_muted (by simp)

@[simp] theorem root_noticesPending (q : List EgressEntry) (s : State) :
    (noticesPending q s).root = s.root := root_of_muted (by simp)

@[simp] theorem root_releasePort (p : Port) (s : State) :
    (releasePort p s).root = s.root := root_of_base (by simp)

@[simp] theorem root_dropPort (p : Port) (m : PortMode) (s : State) :
    (dropPort p m s).root = s.root := by
  unfold dropPort
  simp

@[simp] theorem root_lockLost (p : Port) (s : State) :
    (lockLost p s).root = s.root := by
  unfold lockLost
  split <;> simp

@[simp] theorem root_disablePort (p : Port) (s : State) :
    (disablePort p s).root = s.root := by
  unfold disablePort
  simp

@[simp] theorem root_enablePort (p : Port) (s : State) :
    (enablePort p s).root = s.root := by
  unfold enablePort
  simp

@[simp] theorem root_silenceTimeout (p : Port) (s : State) :
    (silenceTimeout p s).root = s.root := by
  unfold silenceTimeout
  split <;> simp

@[simp] theorem root_resendTallies (p : PanelIndex) (s : State) :
    (resendTallies p s).root = s.root :=
  foldl_keeps State.root _ (fun s _ => by simp) _ s

@[simp] theorem root_listenFor (p : PanelIndex) (s : State) :
    (listenFor p s).root = s.root := root_of_muted (by simp)

@[simp] theorem root_greetPanels (p : Port) (s : State) :
    (greetPanels p s).root = s.root :=
  foldl_keeps State.root _ (fun s _ => by simp) _ s

@[simp] theorem root_enterLocked (p : Port) (s : State) :
    (enterLocked p s).root = s.root := by
  unfold enterLocked
  simp

@[simp] theorem root_clipNotices (o : State) (s : State) :
    (clipNotices o s).root = s.root := by
  unfold clipNotices
  exact foldl_keeps State.root _ (fun s _ => root_raiseNotice _ _ s) _ s

@[simp] theorem root_mixAll (s : State) :
    (mixAll s).root = s.root := by
  unfold mixAll
  rw [root_clipNotices]
  exact State.root_withMix _ _

@[simp] theorem root_readPorts (s : State) :
    (readPorts s).root = s.root := rfl

@[simp] theorem root_transmitPorts (s : State) :
    (transmitPorts s).root = s.root := rfl

@[simp] theorem root_takePorts (o n : Tables) (s : State) :
    (takePorts o n s).root = s.root := by
  unfold takePorts
  refine foldl_keeps State.root _ (fun s p => ?_) _ s
  split <;> simp

@[simp] theorem root_takeClock (o n : Tables) (s : State) :
    (takeClock o n s).root = s.root := by
  unfold takeClock
  dsimp only
  (repeat' split) <;> simp

@[simp] theorem root_takeContributor (o n : Tables) (c : ContribIndex) (s : State) :
    (takeContributor o n c s).root = s.root := by
  unfold takeContributor
  (repeat' split) <;> simp

@[simp] theorem root_takeContributors (o n : Tables) (s : State) :
    (takeContributors o n s).root = s.root :=
  foldl_keeps State.root _ (fun s _ => by simp) _ s

@[simp] theorem root_takeDestination (o n : Tables) (d : Dest) (s : State) :
    (takeDestination o n d s).root = s.root := by
  unfold takeDestination
  dsimp only
  (repeat' split) <;> simp

@[simp] theorem root_freeTalks (o n : Tables) (s : State) :
    (freeTalks o n s).root = s.root := by
  unfold freeTalks
  exact State.root_updTalk _ _

@[simp] theorem root_removeRef (k : KeyIndex) (i : ClaimId) (s : State) :
    (removeRef k i s).root = s.root := root_of_base (by simp)

@[simp] theorem root_takeTalk (o n : Tables) (f : List (KeyIndex × ClaimId)) (s : State) :
    (takeTalk o n f s).root = s.root := by
  unfold takeTalk
  rw [foldl_keeps State.root _ (fun s _ => by simp), foldl_keeps State.root _ (fun s _ => by simp)]

@[simp] theorem root_takeMix (o n : Tables) (s : State) :
    (takeMix o n s).root = s.root := by
  unfold takeMix
  exact State.root_withMix _ _

@[simp] theorem root_takeListens (o n : Tables) (s : State) :
    (takeListens o n s).root = s.root :=
  foldl_keeps State.root _ (fun s _ => by simp) _ s

@[simp] theorem root_takePanels (o n : Tables) (s : State) :
    (takePanels o n s).root = s.root := by
  unfold takePanels
  simp

@[simp] theorem root_takeReply (q : Option PendingTake) (s : State) :
    (takeReply q s).root = s.root := root_of_muted (by simp)

@[simp] theorem root_takeNotice (b : Byte) (s : State) :
    (takeNotice b s).root = s.root := root_of_muted (by simp)

@[simp] theorem root_deliverAll (s : State) :
    (deliverAll s).root = s.root := root_of_muted (by simp)

@[simp] theorem root_settleSilence (s : State) :
    (settleSilence s).root = s.root :=
  foldl_keeps State.root _ (fun s _ => by simp) _ s

@[simp] theorem root_settleDrained (s : State) :
    (settleDrained s).root = s.root :=
  foldl_keeps State.root _ (fun s _ => by simp) _ s

@[simp] theorem root_settleKeys (s : State) :
    (settleKeys s).root = s.root :=
  foldl_keeps State.root _ (fun s _ => by simp) _ s

@[simp] theorem root_settleContexts (s : State) :
    (settleContexts s).root = s.root :=
  foldl_keeps State.root _ (fun s _ => by simp) _ s

@[simp] theorem root_settleReference (s : State) :
    (settleReference s).root = s.root := by
  unfold settleReference
  (repeat' split) <;> simp

@[simp] theorem root_settle (s : State) :
    (settle s).root = s.root := by
  unfold settle
  simp

/-- R67: what an executed take does to the Table Store. -/
theorem root_takeExecute (s : State) :
    (takeExecute s).root = (s.straps, s.unit, s.store.taken, s.pending) := by
  have key : (takeExecute s).root = (s.updStore TableStore.taken).root := by
    unfold takeExecute
    dsimp only
    split <;> simp
  rw [key]
  rfl

/-- R13, R66: what a frame start does to the Table Store. -/
theorem root_frameStart (s : State) :
    (frameStart s).root =
      if takeDue s.store.take (s.now + 1) then (s.straps, s.unit, s.store.taken, s.pending) else s.root := by
  have key : (frameStart s).root = (takeIfDue (s.updClock Clock.startFrame)).root := by
    unfold frameStart
    simp
  rw [key]
  unfold takeIfDue
  simp only [State.updClock_store, State.now, State.updClock_clock, Clock.startFrame]
  by_cases h : takeDue s.store.take (s.clock.frame + 1) = true
  · simp only [h, if_true]; rw [root_takeExecute]; rfl
  · simp only [h, if_false, Bool.false_eq_true]; rfl

end Sys2Proof.Machine
end

