-- ==== Sys2Proof/Laws/Settle.lean ====
section
/-! SUPPORT. When nothing has fallen due, settling changes nothing. -/

namespace Sys2Proof.Machine

theorem filter_eq_nil_of_false {α : Type} (f : α → Bool) (l : List α) (h : ∀ a, f a = false) :
    l.filter f = [] := List.filter_eq_nil_iff.2 fun a _ => by rw [h a]; decide

/-- Nothing has fallen due: no silent port, no report, no talk, no link, no full window, no check owed. -/
theorem settle_quiet (s : State) (silent : ∀ p : Port, s.ports[p].silent < Config.lossRun)
    (drained : ∀ (d : Dest) (l : LaneNo), s.mix[d].lanes[l].drained = false)
    (talk : ∀ k : KeyIndex, s.talk.keys[k].talk = none)
    (link : ∀ c : ContribIndex, s.contexts[c].state = .down)
    (window : ∀ w, s.clock.window = some w → w.arrivals < Config.windowArrivals)
    (check : s.clock.checkOwed = false) : settle s = s := by
  have h1 : settleSilence s = s := by
    unfold settleSilence
    rw [filter_eq_nil_of_false _ _ fun p => decide_eq_false (Nat.not_le.2 (silent p))]
    rfl
  have h2 : settleDrained s = s := by
    unfold settleDrained
    have : ((List.finRange 128).flatMap (drainedLanes s)) = [] := by
      rw [List.flatMap_eq_nil_iff]
      intro d _
      unfold drainedLanes
      rw [filter_eq_nil_of_false _ _ fun l => drained d l]
      rfl
    rw [this]; rfl
  have h3 : settleKeys s = s := by
    unfold settleKeys
    rw [filter_eq_nil_of_false _ _ fun k => by unfold autoDue latchDue; rw [talk k]; rfl]
    rfl
  have h4 : settleContexts s = s := by
    unfold settleContexts
    rw [filter_eq_nil_of_false _ _ fun c => by rw [link c]; rfl]
    rfl
  have h5 : closeTraining s = s := by
    unfold closeTraining
    split
    · next w _ h => rw [if_neg (Nat.not_le.2 (window w h))]
    · rfl
  have h6 : settleReference s = s := by
    unfold settleReference
    rw [if_neg (by rw [check]; decide)]
  unfold settle
  rw [h1, h2, h3, h4, h5, h6]

end Sys2Proof.Machine
end

