-- ==== Sys2Proof/Tests/Slice0.lean ====
section
/-! SUPPORT. The model's own tests: expected values from the spec's tables and worked examples, the smoke tests
of WellFormed, and for each statement with hypotheses a state and operands that meet them. -/

set_option maxRecDepth 1000000

-- One theorem at a time: the kernel evaluations side by side ask for more memory than a check grants.
set_option Elab.async false

namespace Sys2Proof.Tests

open Sys2Proof Sys2Proof.Machine

/-! ### Helpers -/

/-- The state after a command. -/
def after (i : Instr) (s : State) : State :=
  match exec i s with
  | .next t => t
  | _ => s

/-- A LOCKED port that is qualified. -/
def up : PortState := { PortState.reset with mode := .locked, aligned := true, qualification := 500 }

def aPanel : PanelEntry := { inUse := true, address := 10, port := 0, mic := 3, listen := 1 }

def aKey : KeyEntry :=
  { inUse := true, panel := 0, number := 4, kind := 0, target := 1, mode := 0, priority := 3
    interrupt := 1, gain := 192, timeout := 2 }

/-- Contributor 1 of section 8.3.1. -/
def aContributor : ContributorEntry :=
  { inUse := true, port := 5, gateway := 90, source := 83, ret := 91, full := 1, talkback := 1
    dormant := 1, call := 1, override := 0, wakeOnTalk := 1, wakeOnCall := 1, callPanel := 0, callKey := 9 }

def someTables : Tables :=
  { Tables.reset with
    device :=
      { trunk := some 7, noticePort := some 6, noticeAddress := some 9, candidates := [2, 3]
        enabled := Vector.replicate 8 true }
    panels := Tables.reset.panels.set 0 aPanel
    keys := Tables.reset.keys.set 0 aKey
    contributors := Tables.reset.contributors.set 1 aContributor
    destinations := Tables.reset.destinations.set 91 { DestinationEntry.reset with exclude := some 83 } }

/-- Every port LOCKED, one panel with one key on port 0, one contributor on port 5, trunk 7, notices to 6. -/
def scene : State :=
  { State.reset with
    store := { staged := someTables, live := someTables, generation := 0, take := none }
    ports := Vector.replicate 8 up }

/-- The scene with the key's run, and its claim where the run has a talk. -/
def scenePressed (r : KeyRun) (lane : Lane) : State :=
  (scene.updKey 0 fun _ => r).updDest 1 fun a => { a with lanes := a.lanes.set 0 lane }

def aClaim : Claim :=
  { talker := 3, refs := [{ key := 0, priority := 3, interrupt := true, gain := 192 }], priority := 3
    interrupt := true, gain := 192, occupancy := 7 }

def aTalk (st : TalkState) : Talk := { state := st, press := 7, latch := some 7, claims := [⟨3, 1⟩] }

/-- The scene with contributor 1's context. -/
def sceneLinked (x : Context) : State := scene.updContext 1 fun _ => x

def inLink (st : LinkState) : Context := { Context.reset with state := st }

def fromPanel : Env := { port := 0, broadcast := false, sender := 10 }
def fromGateway : Env := { port := 5, broadcast := false, sender := 90 }
def fromHost : Env := { port := 2, broadcast := false, sender := 77 }

/-- The payload of the newest message in a queue of the state. -/
def newest (s : State) (p : Port) : Option (List Byte) :=
  s.ports[p].egress.getLast?.map fun e => (e.bytes.drop 4).dropLast

/-! ### WellFormed: one ill-formed term per check -/

theorem test_wf_forward_broadcast : (Instr.forward 0 0x20 255 1 []).wellFormed = false := by decide
theorem test_wf_long_payload : (Instr.level fromPanel (List.replicate 57 0)).wellFormed = false := by decide
theorem test_wf_taken_kind : (Instr.unhandledKind fromHost 0x30 []).wellFormed = false := by decide
theorem test_wf_down_is_up : (Instr.keyDown fromPanel [1, 0]).wellFormed = false := by decide
theorem test_wf_up_is_down : (Instr.keyUp fromPanel [1, 1]).wellFormed = false := by decide
theorem test_wf_page_of_its_form : (Instr.pageError fromGateway [6]).wellFormed = false := by decide
theorem test_wf_long_fields : (Instr.write fromHost 0 (List.replicate 55 0)).wellFormed = false := by decide
theorem test_wf_other_action : (Instr.restart fromHost 0 [0, 1]).wellFormed = false := by decide
theorem test_wf_other_selector : (Instr.statusDevice fromHost 0 [1, 0]).wellFormed = false := by decide
theorem test_wf_other_form : (Instr.resetFull fromHost 0 [1]).wellFormed = false := by decide
theorem test_wf_known_request : (Instr.unknownRequest fromHost [0x11, 0]).wellFormed = false := by decide
theorem test_wf_accepts :
    ([Instr.keyDown fromPanel [4, 1], .keyUp fromPanel [4, 0], .restart fromHost 0 [0, 0],
      .statusDevice fromHost 0 [0, 0], .clearTalk fromHost 0 [1], .pageError fromGateway [10, 0, 0, 0],
      .unknownRequest fromHost [0x99, 0]].all Instr.wellFormed) = true := by decide

/-! ### Bytes, words and arithmetic, from the spec's own numbers -/

/-- Figure of section 2.1: a LEVEL message of one byte, whose sum is 0 modulo 256. -/
theorem test_level_message : message kindLevel 0xF0 0x11 [0xC0] = [0x11, 0xF0, 0x11, 0x01, 0xC0, 0x2D] := by
  decide

/-- R2, by hand: eight 1 bits meet a register of ones, which shifts out; then a single 1 bit leaves 0x07. -/
theorem test_crc : crc [0xFF] = 0 ∧ crc [0xFF, 0x01] = 0x07 := by decide

/-- R44: unity at code 192; codes 11 and 12; codes 216 and 217. Sections 4.8 and 5.7 name the others. -/
theorem test_default_law :
    [11, 12, 172, 180, 186, 192, 198, 204, 216, 217].map (fun c => (defaultCoefficient c).toNat) =
      [0, 1, 5181, 8211, 11599, 16384, 23143, 32690, 65226, 65535] := by decide +kernel

/-- Table 5-5. -/
theorem test_effective :
    [16384, 16128, 11264, 5376, 5181].map (effective 65226) = [65226, 64207, 44843, 21402, 20626] := by
  decide

/-- Sections 5.7.1 and 5.7.2, and the halves of R94. -/
theorem test_rounding :
    roundHalfAway (-16040700000) = -979047 ∧ mixValue (-16040700000) 8211 = -490659 ∧
      mixValue 1048560000000 16384 = 63999023 ∧ roundHalfAway 24576 = 2 ∧ roundHalfAway (-24576) = -2 := by
  decide

/-- Table 4-4: the slew of slot 0 down from 8211 and of lane 0 down from 32690. -/
theorem test_slew :
    (List.range 32).foldl (fun a _ => slew a 0) 8211 = 19 ∧ slew 19 0 = 0 ∧
      (List.range 127).foldl (fun a _ => slew a 0) 32690 = 178 := by decide

/-- Table 1-4. -/
theorem test_candidate_period :
    [2097300, 2097290, 2099500, 2097310].map candidatePeriod = [8193, 8193, 8201, 8193] := by decide

/-- Section 1.6.1: the ticks to a fill at P = 8193, and to the timer's first and second frame starts after it. -/
theorem test_ticks :
    (let c := { Clock.reset with period := 8193 };
      c.ticksToFill = 769 ∧ c.ticksToTimer = 513 ∧ { c with phase := 15 }.ticksToTimer = 512) := by decide

/-! ### Commands, one step each -/

/-- Table 1-4, window 3: rejected. -/
theorem test_training_rejected :
    (let c := (after .trainingWindowClose (scene.updClock fun c =>
      { c with mode := .locked, reference := some 2, period := 8193, window := some ⟨4096, 2099500⟩ })).clock;
    c.period = 8193 ∧ c.trainingRejections = 1 ∧ c.window = some ⟨0, 0⟩) := by decide +kernel

/-- Table 1-5: the fourth fill. -/
theorem test_fourth_fill :
    (let s := lastFill (scene.updClock fun c =>
      { c with mode := .locked, reference := some 2, fillCount := 4, frame := 1000004 });
    s.clock.mode = .holdover ∧ s.clock.phase = 0 ∧ s.ports[2].qualification = 0) := by decide +kernel

/-- R17: the first qualified candidate. -/
theorem test_reference_selection : (after .referenceSelection scene).clock.reference = some 2 := by
  decide +kernel

/-- R19: a settled earlier candidate. -/
theorem test_revertive_switch :
    (after .revertiveSwitch ((scene.updClock fun c => { c with mode := .locked, reference := some 3 }).updPort 2
      fun q => { q with qualification := 48000 })).clock.reference = some 2 := by decide +kernel

/-- R62, R26: the straps. -/
theorem test_power_on : (after (.powerOn 5) scene).unit = 245 ∧ (after (.resetPin 7) scene).unit = 247 := by
  decide +kernel

/-- R3, R5: a good frame on a LOCKED port is pushed; its sequence 9 is not the expected 0. -/
theorem test_arrival :
    (let q := (after (.arrival 4 0 (frameBytes 9 (Vector.replicate 16 5) idleLane)) scene).ports[4];
    q.slip = [Vector.replicate 16 5] ∧ q.expected = 10 ∧ q.sequenceErrors = 1) := by decide +kernel

/-- R7, R19: what a frame start brought due is taken before the arrival of the same moment: the silent port loses its
lock; the settled candidate is the reference, so that the arrival on port 3 makes no frame start. -/
theorem test_due_before_arrival :
    (after (.arrival 4 0 (frameBytes 0 silence idleLane))
      (scene.updPort 4 fun q => { q with silent := 8 })).ports[4].mode = .acquiring ∧
      (let c := (after (.arrival 3 0 (frameBytes 0 silence idleLane)) ((scene.updClock fun c =>
        { c with mode := .locked, reference := some 3, checkOwed := true }).updPort 2
          fun q => { q with qualification := 48000 })).clock;
      c.reference = some 2 ∧ c.frame = 0) := by decide +kernel

/-- R32: a message for the gateway goes to its port, for a stranger to the trunk. -/
theorem test_forward :
    newest (after (.forward 1 0x20 90 7 [1]) scene) 5 = some [1] ∧
      newest (after (.forward 1 0x20 33 7 [2]) scene) 7 = some [2] := by decide +kernel

/-- R29. -/
theorem test_unhandled_kind : (after (.unhandledKind fromHost 0x20 []) scene).counters.unhandledKinds = 1 := by
  decide +kernel

/-- R30, R31. -/
theorem test_unknown_senders :
    (after (.unknownPanel fromHost true [1]) scene).counters.unknownPanels = 1 ∧
      (after (.unknownGateway fromHost [6]) scene).counters.unknownGateways = 1 := by decide +kernel

/-- R27: BAD_REQUEST is result 3. -/
theorem test_unknown_request :
    newest (after (.unknownRequest fromHost [0x99, 5]) scene) 2 = some [0x99, 5, 3] ∧
      (after (.unknownRequest fromHost [0x99]) scene).counters.malformedRequests = 1 := by decide +kernel

/-- R103: a press of the key: its talk, its lane and its tally. -/
theorem test_key_down :
    (let s := after (.keyDown fromPanel [4, 1]) (scene.updClock fun c => { c with frame := 7 });
    s.talk.keys[0].talk = some { aTalk .held with latch := none } ∧ s.talk.dests[1].lanes[0] = .active aClaim ∧
      newest s 0 = some [1, 10] ∧ lastTally s 0 4 = .talking) := by decide +kernel

/-- Table 6-6: a DOWN of a position that has no KEY entry clears the call shown there and is not counted. -/
theorem test_key_down_answers_call :
    (let s := after (.keyDown fromPanel [9, 1]) (after (.gatewayCall fromGateway)
      (sceneLinked { inLink .active with resolved := ⟨true, true, true, true⟩ }));
    s.talk.calling[1] = false ∧ s.contexts[1].callPending = false ∧ newest s 0 = some [9, 0] ∧
      s.counters.unknownKeys = 0) := by decide +kernel

/-- R105: the UP of a HELD talk releases it; the lane is RELEASING. -/
theorem test_key_up :
    (let s := upOn 0
      (scenePressed { pos := .down, refused := false, talk := some (aTalk .held) } (.active aClaim));
    s.talk.keys[0] = { pos := .up, refused := false, talk := none } ∧
      s.talk.dests[1].lanes[0] = .releasing none) := by decide +kernel

/-- R114. -/
theorem test_level : (after (.level fromPanel [192]) scene).talk.dests[1].master = 192 := by decide +kernel

/-- R128: a drained lane with a bound claim. -/
theorem test_lane_drained :
    (let s := answerDrained 1 0 (scenePressed
      { pos := .down, refused := false, talk := some (aTalk .held) } (.releasing (some aClaim)));
    s.talk.dests[1].lanes[0] = .active aClaim ∧ s.mix[1].lanes[0].source = some 3) := by decide +kernel

/-- R107: at press frame plus 12,000, and one frame before. -/
theorem test_auto_threshold :
    (let s := scenePressed { pos := .down, refused := false, talk := some (aTalk .autoUndecided) }
      (.active aClaim);
    let at_ (n : FrameNo) := (after (.autoThreshold 0) (s.withFrame n)).talk.keys[0].talk;
    at_ 12007 = some (aTalk .held) ∧ at_ 12006 = some (aTalk .autoUndecided)) := by decide +kernel

/-- R107: a timeout of 2 seconds after latch frame 7; the key is still held. -/
theorem test_latch_timeout :
    (let s := scenePressed { pos := .down, refused := false, talk := some (aTalk .latched) } (.active aClaim);
    latchDue 0 (s.withFrame 96006) = false ∧ latchDue 0 (s.withFrame 96007) = true ∧
      (releaseOther 0 s).talk.keys[0] = { pos := .downSpent, refused := false, talk := none }) := by decide +kernel

/-- R115: RELEASE of a key without a talk is BAD_STATE; a key number above 31 is OUT_OF_RANGE. -/
theorem test_release :
    newest (after (.release fromHost 1 [0, 4]) scene) 2 = some [0x10, 1, 10, 0, 4] ∧
      newest (after (.release fromHost 1 [0, 32]) scene) 2 = some [0x10, 1, 11, 0, 32] := by decide +kernel

/-- R135: QUEUE on a destination with one ACTIVE lane. -/
theorem test_queue :
    newest (after (.queue fromHost 1 [1]) (scenePressed
      { pos := .down, refused := false, talk := some (aTalk .held) } (.active aClaim))) 2 =
      some [0x11, 1, 0, 1, 1, 3, 3, 0, 255, 255, 0, 255, 255, 0, 255, 255, 0] := by decide +kernel

/-- R116: what CLEAR TALK leaves of a held key and of a refused one. -/
theorem test_clear_talk :
    ({ pos := .down, refused := false, talk := some (aTalk .held) } : KeyRun).cleared =
        { pos := .downSpent, refused := false, talk := none } ∧
      ({ pos := .down, refused := true, talk := none } : KeyRun).cleared =
        { pos := .down, refused := true, talk := none } := by decide

/-! The lanes of Tables 7-3 and 7-4, with destination 1 in place of 37. -/

def claimOf (x : Source) (priority : Nat) (occupancy : FrameNo) : Claim :=
  { talker := x, refs := [{ key := 9, priority := priority, interrupt := false, gain := 204 }]
    priority := priority, interrupt := false, gain := 204, occupancy := occupancy }

def earpiece : State :=
  (scene.withFrame 200000).updDest 1 fun a =>
    { a with
      lanes := #v[.active (claimOf 50 3 100000), .active (claimOf 51 3 180000),
        .active (claimOf 52 5 120000), .active (claimOf 53 6 150000)] }

/-- Events A and B of section 7.9. -/
theorem test_preemption :
    (let s := (placeNew 1 (claimOf 55 2 0) (placeNew 1 (claimOf 54 7 0) earpiece).1).1;
    s.talk.dests[1].lanes[1] = .releasing (some (claimOf 54 7 200000)) ∧
      s.talk.dests[1].queue = [claimOf 51 3 180000, claimOf 55 2 0]) := by decide +kernel

/-- Event C: the head is promoted to the lane given up. -/
theorem test_promotion :
    (let s := removeRef 9 ⟨53, 1⟩ (setQueue 1 [claimOf 51 3 180000, claimOf 55 2 0] (earpiece.withFrame 202000));
    s.talk.dests[1].lanes[3] = .releasing (some (claimOf 51 3 202000)) ∧
      s.talk.dests[1].queue = [claimOf 55 2 0]) := by decide +kernel

/-- Section 7.10: claim 60 loses reference G and the head demotes in. -/
theorem test_demotion :
    (let d : Ref := { key := 1, priority := 4, interrupt := false, gain := 180 };
    let g : Ref := { key := 2, priority := 6, interrupt := true, gain := 198 };
    let shared : Claim :=
      { talker := 60, refs := [d, g], priority := 6, interrupt := true, gain := 198, occupancy := 300000 };
    let s := (scene.withFrame 330000).updDest 1 fun a =>
      { a with
        lanes := #v[.active shared, .active (claimOf 61 5 305000), .active (claimOf 62 5 306000),
          .active (claimOf 63 6 307000)]
        queue := [claimOf 64 5 0, claimOf 65 4 0] };
    let t := removeRef 2 ⟨60, 1⟩ s;
    t.talk.dests[1].lanes[0] = .releasing (some (claimOf 64 5 330000)) ∧
      t.talk.dests[1].queue =
        [{ shared with refs := [d], priority := 4, interrupt := false, gain := 180 }, claimOf 65 4 0]) := by
  decide +kernel

/-! Section 8.3.1: the negotiation of contributor 1. -/

def gatewayOffers : Abilities := ⟨false, true, true, true⟩

/-- Table 8-4, first row: the BASE and its answer. -/
theorem test_gateway_base :
    (let s := after (.gatewayBase fromGateway ⟨false, false, true⟩ gatewayOffers) scene;
    s.contexts[1].state = .negotiating ∧ s.contexts[1].progress = .awaitNext ∧
      s.contexts[1].partToggle = true ∧ newest s 5 = some [1, 1, 1, 0, 1, 1, 1, 1]) := by decide +kernel

/-- Table 8-4, second and fourth rows: the TOLERANCE, and its repeat. -/
theorem test_gateway_tolerance :
    (let page := Instr.gatewayTolerance fromGateway ⟨true, true, true⟩ 300;
    let s := after page (after (.gatewayBase fromGateway ⟨false, false, true⟩ gatewayOffers) scene);
    s.contexts[1].gatewayTolerance = some 300 ∧ s.contexts[1].partToggle = false ∧
      newest s 5 = some [4, 0, 1, 0] ∧ newest (after page s) 5 = some [4, 0, 1, 0]) := by decide +kernel

/-- Table 8-4, last row: the IDENT completes the negotiation; ECHO follows DELAY. -/
theorem test_gateway_ident :
    (let x : Context :=
      { inLink .negotiating with
        gatewayToggle := some true, progress := .awaitNext, gatewayOffer := some gatewayOffers
        gatewayTolerance := some 300 };
    let s := after (.gatewayIdent fromGateway ⟨false, true, false⟩ 4417) ((sceneLinked x).withFrame 1002030);
    let y := s.contexts[1];
    y.state = .active ∧ y.returnMode = .talkbackOnly ∧ y.tolerance = 300 ∧ y.ident = 4417 ∧
      newest s 5 = some [10, 0x0F, 0x4A, 0x2E]) := by decide +kernel

/-- R140: a NULL with nothing to acknowledge is a page error. -/
theorem test_gateway_null :
    (let x := (after (.gatewayNull fromGateway ⟨false, true, true⟩) (sceneLinked (inLink .negotiating))).contexts[1];
    x.pageErrors = 1 ∧ x.state = .negotiating) := by decide +kernel

/-- Table 9-2, second sample: the flag is set and DELAY carries 322 ms. -/
theorem test_gateway_echo_back :
    (let x : Context :=
      { inLink .active with
        tolerance := 300, average := some 14000, lastReported := 14000, echoOutstanding := true
        latestStamp := 0 };
    let s := after (.gatewayEchoBack fromGateway 0) ((sceneLinked x).withFrame 20000);
    s.contexts[1].average = some 15500 ∧ s.contexts[1].longDelay = true ∧
      newest s 5 = some [13, 1, 66, 1]) := by decide +kernel

/-- Table 8-6: the CALL of a dormant link wakes it. -/
theorem test_gateway_call :
    (let s := after (.gatewayCall fromGateway)
      (sceneLinked { inLink .dormant with resolved := ⟨false, true, true, true⟩, ident := 4417 });
    s.contexts[1].state = .waking ∧ s.contexts[1].callPending = true ∧ newest s 5 = some [11] ∧
      s.notices[3].latest = some ⟨1, 0x11, 0x41⟩ ∧ lastTally s 0 9 = .calling) := by decide +kernel

/-- R145: a RESUME in ACTIVE is a page error. -/
theorem test_gateway_resume :
    (after (.gatewayResume fromGateway) (sceneLinked (inLink .active))).contexts[1].pageErrors = 1 := by
  decide +kernel

/-- R144: a CLOSE in DOWN is answered. -/
theorem test_gateway_close : newest (after (.gatewayClose fromGateway) scene) 5 = some [9] := by
  decide +kernel

theorem test_gateway_close_ack :
    (after (.gatewayCloseAck fromGateway) (sceneLinked (inLink .closing))).contexts[1].state = .down ∧
      (after (.gatewayCloseAck fromGateway) scene).contexts[1].pageErrors = 1 := by decide +kernel

/-- R137: an ECHO is no page of a gateway. -/
theorem test_page_error :
    (after (.pageError fromGateway [10, 0, 0, 0]) scene).contexts[1].pageErrors = 1 := by decide +kernel

/-- R142: a restart at page frame plus 24,000, not before. -/
theorem test_negotiation_timeout :
    (after (.negotiationTimeout 1) ((sceneLinked (inLink .negotiating)).withFrame 24000)).contexts[1].restarts = 1 ∧
      (after (.negotiationTimeout 1) ((sceneLinked (inLink .negotiating)).withFrame 23999)).contexts[1].restarts
        = 0 := by decide +kernel

/-- Table 8-6: the echo of a dormant link after 480,000 frames. -/
theorem test_echo_due :
    (let x := (after (.echoDue 1)
      ((sceneLinked { inLink .dormant with echoFrame := 1100000 }).withFrame 1580000)).contexts[1];
    x.echoOutstanding = true ∧ x.latestStamp = 1580000) := by decide +kernel

/-- Table 8-6: the third expiry is a loss. -/
theorem test_wake_expiry :
    (let x := (after (.wakeExpiry 1) ((sceneLinked
      { inLink .waking with wakeAttempts := 3, wakeFrame := 1696000 }).withFrame 1744000)).contexts[1];
    x.state = .down ∧ x.losses = 1 ∧ x.lossMark = true) := by decide +kernel

/-- R144: the close timeout is not due one frame early. -/
theorem test_close_timeout :
    (after (.closeTimeout 1) ((sceneLinked (inLink .closing)).withFrame 23999)).contexts[1].state = .closing := by
  decide +kernel

/-- Table 8-5: the new states and their codes in the answers. -/
theorem test_commands :
    newest (after (.restart fromHost 1 [1, 0]) scene) 2 = some [0x20, 1, 0, 1, 1] ∧
      newest (after (.standby fromHost 1 [1, 1]) (sceneLinked (inLink .active))) 2 = some [0x20, 1, 0, 1, 3] ∧
      newest (after (.activate fromHost 1 [1, 2]) (sceneLinked (inLink .standby))) 2 = some [0x20, 1, 0, 1, 2] ∧
      newest (after (.close fromHost 1 [1, 7]) (sceneLinked (inLink .closing))) 2 = some [0x20, 1, 0, 1, 6] := by
  decide +kernel

/-- Table 8-5: DORMANT without DORMANT_CAPABLE is BAD_STATE; WAKE, LINECHECK_ON and LINECHECK_OFF. -/
theorem test_more_commands :
    newest (after (.dormant fromHost 1 [1, 3]) (sceneLinked (inLink .active))) 2 = some [0x20, 1, 10, 1, 2] ∧
      newest (after (.wake fromHost 1 [1, 4]) (sceneLinked (inLink .dormant))) 5 = some [11] ∧
      newest (after (.linecheckOn fromHost 1 [1, 5]) (sceneLinked (inLink .active))) 5 = some [12, 3] ∧
      newest (after (.linecheckOff fromHost 1 [1, 6]) (sceneLinked (inLink .linecheck))) 2 =
        some [0x20, 1, 0, 1, 2] := by decide +kernel

/-- Table 3-9: the first and second WRITEs of destination 37. -/
theorem test_write_bad_field :
    newest (after (.write fromHost 1 [3, 37, 96, 192, 172, 255, 180, 0, 3, 5, 192, 96, 186, 40, 180]) scene) 2 =
        some [1, 1, 5, 3, 37, 7, 2] ∧
      newest (after (.write fromHost 1 [3, 37, 96, 192, 172, 255, 180, 0, 3, 5, 192, 40, 180, 40, 186]) scene) 2 =
        some [1, 1, 5, 3, 37, 7, 3] := by decide +kernel

/-- Table 3-9: the third WRITE, read back. -/
theorem test_write_read :
    (let s := after (.write fromHost 1 [3, 37, 96, 192, 172, 40, 180, 0, 2, 40, 180, 5, 186]) scene;
    newest s 2 = some [1, 1, 0, 3, 37] ∧
      newest (after (.read fromHost 2 [3, 37, 0]) s) 2 =
        some [2, 2, 0, 3, 37, 0, 0, 0, 96, 192, 172, 40, 180, 0, 2, 40, 180, 5, 186]) := by decide +kernel

/-- Table 4-3: GENERATION, with the live generation 13 as data. -/
theorem test_take_generation :
    newest (after (.take fromHost 1 [0, 12]) (scene.updStore fun t => { t with generation := 13 })) 2 =
      some [3, 1, 7, 0, 13] := by decide +kernel

/-- Table 4-3: OUT_OF_RANGE, with the current frame 5,000,100 as data. -/
theorem test_take_horizon :
    newest (after (.take fromHost 1 [0, 0, 0, 0, 2, 5, 0x45, 0xE0]) (scene.withFrame 5000100)) 2 =
      some [3, 1, 11, 0, 0, 0, 0x4C, 0x4B, 0xA4] := by decide +kernel

/-- R67: the generation after 65,535 is 0, the copies are equal, and an immediate take is answered. -/
theorem test_take_execute :
    (let t := ({ scene.store with generation := 65535, take := some (.immediate 2 77 3 1) } : TableStore).taken;
    t.generation = 0 ∧ t.take = none) ∧
      newest (takeReply (some (.immediate 2 77 3 1)) scene) 2 = some [3, 1, 0, 0, 0] ∧
      (takeNotice 0 scene).notices[4].latest = some ⟨0, 0, 0⟩ := by decide +kernel

/-- R154, R117: a contributor put out of use while ACTIVE, CALLING shown, gets CLOSE; its TALLY waits for the end of
the take. -/
theorem test_take_contributor :
    (let s := (sceneLinked { inLink .active with callPending := true }).updTalk fun t =>
      { t with calling := t.calling.set 1 true, lastTally := t.lastTally.set 0 (t.lastTally[0].set 9 .calling) };
    let t := takeContributor someTables Tables.reset 1 s;
    t.contexts[1].state = .down ∧ t.talk.calling[1] = false ∧ newest t 5 = some [8] ∧ t.ports[0].egress = [] ∧
      lastTally t 0 9 = .calling) := by decide +kernel

/-- R8, R9A: an ACQUIRING port that is disabled before the ABORT it owes is sent sends it with its first frame once
enabled; one that is disabled in LOCKED owes none. -/
theorem test_abort_after_disabling :
    (let e : EgressEntry := { bytes := [1, 2, 3, 4, 5, 6], origin := .page, sent := 3 };
    let q (mode : PortMode) (owed : Bool) : PortState := { up with mode := mode, abortOwed := owed, egress := [e] };
    let again (q : PortState) : PortState :=
      (enablePort 4 (disablePort 4 (scene.updPort 4 fun _ => q))).ports[4];
    (again (q .acquiring true)).lanePart = { marker := 0xF0, data := [0, 0, 0] } ∧
      (again (q .locked false)).lanePart = { marker := 0, data := [0, 0, 0] }) := by decide +kernel

/-- R68, R69. -/
theorem test_cancel_revert :
    (let s := scene.updStore fun t => { t with take := some (.scheduled 5 false), staged := Tables.reset };
    newest (after (.cancel fromHost 1 []) s) 2 = some [4, 1, 0, 0, 0, 0, 0, 0, 5] ∧
      newest (after (.revert fromHost 1 []) s) 2 = some [5, 1, 6, 0, 0, 0, 0, 0, 5] ∧
      (after (.revert fromHost 1 []) (after (.cancel fromHost 1 []) s)).store.staged.panels[0] = aPanel) := by
  decide +kernel

/-- R164: a byte above 2 is reported by its class code plus 1. -/
theorem test_mask :
    newest (after (.mask fromHost 1 [2, 0, 2, 0, 0, 0, 0]) scene) 2 =
        some [0x30, 1, 0, 0, 1, 0, 1, 1, 1, 1, 0, 0, 0, 0, 0, 0, 0] ∧
      newest (after (.mask fromHost 1 [0, 0, 3, 0, 0, 0, 0]) scene) 2 = some [0x30, 1, 5, 3, 0] := by
  decide +kernel

/-- R165: STATUS of a destination clears its meter, of a contributor its loss mark. -/
theorem test_status :
    (let s := scene.updMix 1 fun m => { m with peak := 8388607, clipFlag := true };
    newest (after (.statusDestination fromHost 1 [1, 1]) s) 2 =
        some [0x31, 1, 0, 1, 1, 0x7F, 0xFF, 0xFF, 1, 0, 0, 0, 0, 0] ∧
      (after (.statusDestination fromHost 1 [1, 1]) s).mix[1].peak = 0 ∧
      (after (.statusContributor fromHost 1 [2, 1]) (sceneLinked
        { inLink .active with lossMark := true })).contexts[1].lossMark = false ∧
      (newest (after (.statusDevice fromHost 1 [0, 0]) scene) 2).map List.length = some 44) := by decide +kernel

/-- R166: counters read and cleared. -/
theorem test_counters :
    (let s := scene.updPort 3 fun q => { q with crcErrors := 258 };
    newest (after (.countersPort fromHost 1 [0, 3, 1]) s) 2 =
        some [0x32, 1, 0, 0, 3, 1, 2, 0, 0, 0, 0, 0, 0, 0, 0, 0, 0, 0, 0, 0, 0] ∧
      (after (.countersPort fromHost 1 [0, 3, 1]) s).ports[3].crcErrors = 0 ∧
      newest (after (.countersDestination fromHost 1 [3, 4, 0]) scene) 2 = some [0x32, 1, 0, 3, 4, 0, 0] ∧
      newest (after (.countersContributor fromHost 1 [2, 8, 0]) scene) 2 = some [0x32, 1, 11, 2, 8, 0] ∧
      (newest (after (.countersDevice fromHost 1 [1, 0, 0]) scene) 2).map List.length = some 23) := by
  decide +kernel

/-- R167: a byte above 1 is BAD_FIELD at field 1; FULL is not answered. -/
theorem test_reset :
    newest (after (.resetFull fromHost 1 [2]) scene) 2 = some [0x3F, 1, 5, 1, 0] ∧
      newest (after (.resetFull fromHost 1 [0]) scene) 2 = none := by decide +kernel

/-- Table 2-5: a LISTEN displaces the newest NOTICE of a full queue. -/
theorem test_displacement :
    (let d : Detail := ⟨1, 2, 0⟩;
    let other : EgressEntry := { bytes := [1], origin := .forwarded, sent := 0 };
    let clock : EgressEntry := { bytes := [2], origin := .notice .clock d, sent := 0 };
    let port : EgressEntry := { bytes := [3], origin := .notice .port d, sent := 0 };
    let s := scene.updPort 3 fun q =>
      { q with egress := List.replicate 8 other ++ clock :: List.replicate 5 other ++ [port, other] };
    let t := offer 3 (.listen 30) [4] s;
    t.ports[3].egress.length = 16 ∧ t.ports[3].egress[14]? = some other ∧
      t.notices[1].pending = true ∧ t.notices[0].pending = false) := by decide +kernel


/-! ### States and operands that meet the hypotheses of the statements

One theorem for each statement with hypotheses, and within it one part for each of its clauses. -/

def aFrame (sequence : Byte) : List Byte := frameBytes sequence silence idleLane

def aBadFrame : List Byte := 0x5C :: List.replicate 54 0

/-- StepRunsFrontCommand. -/
theorem test_met_step :
    (∃ c rest, ({ scene with pending := [.fill, .takeExecute] } : State).pending = c :: rest) ∧
      ∃ t, exec .referenceSelection scene = .next t := ⟨⟨_, _, rfl⟩, _, rfl⟩

/-- A state whose ports have not fallen silent and whose talk, mix and contexts are those of reset has nothing due. -/
theorem test_quiet (s : State) (silent : ∀ p : Port, s.ports[p].silent < 8) (mix : s.mix = State.reset.mix)
    (keys : s.talk.keys = State.reset.talk.keys) (contexts : s.contexts = State.reset.contexts)
    (window : s.clock.window = none) (check : s.clock.checkOwed = false) : settle s = s := by
  refine settle_quiet _ silent ?_ ?_ ?_ (fun w hw => by rw [window] at hw; cases hw) check
  · intro d l
    rw [mix]
    show ((Vector.replicate 128 MixState.reset)[d]).lanes[l].drained = false
    rw [show (Vector.replicate 128 MixState.reset)[d] = MixState.reset from Vector.getElem_replicate _]
    revert l; decide
  · intro k
    rw [keys]
    show ((Vector.replicate 256 (KeyRun.mk .up false none))[k]).talk = none
    rw [show (Vector.replicate 256 (KeyRun.mk .up false none))[k] = KeyRun.mk .up false none from
      Vector.getElem_replicate _]
  · intro k
    rw [contexts]
    show (Vector.replicate 8 Context.reset)[k].state = .down
    rw [show (Vector.replicate 8 Context.reset)[k] = Context.reset from Vector.getElem_replicate _]
    rfl

theorem test_settled (c : Clock) (h : c.window = none) (h' : c.checkOwed = false) :
    settle { State.reset with clock := c } = { State.reset with clock := c } :=
  test_quiet _ (by
    intro p
    show (Vector.replicate 8 PortState.reset)[p].silent < _
    rw [show (Vector.replicate 8 PortState.reset)[p] = PortState.reset from Vector.getElem_replicate _]
    decide) rfl rfl rfl h h'

/-- IdleStepIsOneTick: at reset; with a timer frame start and a fill due, with and without a take; with a port fallen
silent, whose timeout is taken. -/
theorem test_met_idle :
    (State.reset.pending = [] ∧ settle State.reset = State.reset ∧ timerDue State.reset.clock = false ∧
      fillDue State.reset.clock = false) ∧
    (let c : Clock := { Clock.reset with phase := 8192 };
    let s : State := { State.reset with clock := c };
    settle s = s ∧ timerDue s.clock = true ∧ takeDue s.store.take (s.now + 1) = false ∧
      takeDue (some (.scheduled 1 false)) (s.now + 1) = true) ∧
    (∀ n : Fin 2,
      let c : Clock :=
        { Clock.reset with mode := .locked, reference := some 2, fillCount := 2 + n.val, sinceStart := 768 }
      let s : State := { State.reset with clock := c }
      settle s = s ∧ fillDue s.clock = true ∧ s.clock.reference = some 2) ∧
    (let s := scene.updPort 0 fun q => { q with silent := 8 };
    s.pending = [] ∧ (settle s).ports[0].mode = .acquiring ∧ timerDue (settle s).clock = false ∧
      fillDue (settle s).clock = false) :=
  ⟨⟨rfl, test_settled Clock.reset rfl rfl, rfl, rfl⟩, ⟨test_settled _ rfl rfl, by decide, rfl, by decide⟩,
    fun n => ⟨test_settled _ rfl rfl, by revert n; decide, rfl⟩, by decide +kernel⟩

/-- Every statement about a message whose from-address is accepted. -/
theorem test_met_sender : badSender scene 77 = false := by decide +kernel

/-- TakeIsAccepted and ValidTablesAreConsistent: tables that validate, with a contributor in use. -/
theorem test_met_valid : validate 240 someTables = none := by decide +kernel

theorem test_met_valid_reset : validate 240 Tables.reset = none := by decide +kernel

/-- StepKeepsPanelsTold and every statement that supposes valid tables: a take pending, and none. -/
theorem test_met_tables :
    (∀ take, TablesValid (scene.updStore fun t => { t with take := take })) ∧
      ∃ t, exec .referenceSelection scene = .next t :=
  ⟨fun _ => ⟨test_met_valid, fun _ => test_met_valid⟩, _, rfl⟩

/-- DefaultLawIsExact: a code below the limit, and one at it. -/
theorem test_met_law :
    (∃ t, t = (State.powerUp 0).store.staged) ∧ 32768 ^ 40 * 10 ^ 216 < 131071 ^ 40 * 10 ^ 192 ∧
      131071 ^ 40 * 10 ^ 192 ≤ 32768 ^ 40 * 10 ^ 217 := ⟨⟨_, rfl⟩, by decide +kernel, by decide +kernel⟩

/-- A state with no key in use, and the talk of reset, has told its panels what they show. -/
theorem test_panels_told (s : State) (keys : s.live.keys = Tables.reset.keys) (talk : s.talk = State.reset.talk) :
    PanelsTold s := by
  have hk : ∀ p n, keyAt s p n = none := by
    intro p n
    unfold keyAt
    rw [keys]
    refine List.find?_eq_none.2 fun k _ => ?_
    show ¬ ((Vector.replicate 256 KeyEntry.reset)[k].inUse && _ && _) = true
    rw [show (Vector.replicate 256 KeyEntry.reset)[k] = KeyEntry.reset from Vector.getElem_replicate _]
    simp [KeyEntry.reset]
  have hc : ∀ p n, showsCalling s p n = false := by
    intro p n
    refine List.any_eq_false.2 fun c _ => ?_
    rw [talk]
    show ¬ ((Vector.replicate 8 false)[c] && _) = true
    rw [show (Vector.replicate 8 false)[c] = false from Vector.getElem_replicate _]
    simp
  refine ⟨fun p n => ?_, fun d => ?_⟩
  · unfold displayed keyTally lastTally
    rw [hc, hk, talk]
    show ((Vector.replicate 64 (Vector.replicate 32 Tally.idle))[p])[n] = _
    rw [show (Vector.replicate 64 (Vector.replicate 32 Tally.idle))[p] = Vector.replicate 32 .idle from
      Vector.getElem_replicate _, show (Vector.replicate 32 Tally.idle)[n] = .idle from
      Vector.getElem_replicate _]
    rfl
  · unfold talkerList
    rw [talk, show State.reset.talk.dests[d] =
      { lanes := Vector.replicate 4 .free, queue := [], master := 0, talkers := [] } from
      Vector.getElem_replicate _]
    refine (List.filterMap_eq_nil_iff.2 fun l _ => ?_).symm
    rw [show (Vector.replicate 4 Lane.free)[l] = .free from Vector.getElem_replicate _]
    rfl

/-- A state with a command waiting that meets every invariant, and answers a next state. -/
theorem test_met_invariants :
    (let s : State := { State.reset with pending := [.referenceSelection] };
    LawZero s ∧ PeriodInRange s ∧ TablesValid s ∧ PortsBounded s ∧ MixBounded s ∧ QueuesBounded s ∧ TalksBounded s ∧
      TalkOrdered s ∧ PanelsTold s ∧ ∃ t, step s = .next t) := by
  have hm : ∀ d : Dest, (Vector.replicate 128 MixState.reset)[d] = MixState.reset :=
    fun d => Vector.getElem_replicate _
  have hd : ∀ d : Dest, ({ State.reset with pending := [.referenceSelection] } : State).talk.dests[d] =
      { lanes := Vector.replicate 4 .free, queue := [], master := 0, talkers := [] } :=
    fun d => Vector.getElem_replicate _
  refine ⟨⟨by decide +kernel, by decide +kernel⟩, ⟨by decide, by decide⟩,
    ⟨test_met_valid_reset, fun h => absurd rfl h⟩, ?_, ?_, ?_, ?_, ?_, test_panels_told _ rfl rfl, _, rfl⟩
  · intro p
    have : ({ State.reset with pending := [.referenceSelection] } : State).ports[p] = PortState.reset :=
      Vector.getElem_replicate _
    rw [this]
    exact ⟨by decide, by decide, by decide, by decide, by decide, by decide, by decide⟩
  · intro d
    show MixState.Bounded (Vector.replicate 128 MixState.reset)[d]
    rw [hm d]
    exact ⟨by decide, by decide, by decide, by decide, by decide, by decide, by decide⟩
  · intro d; rw [hd d]; decide
  · unfold TalksBounded talkCount
    decide +kernel
  · intro d
    rw [hd d]
    exact ⟨by decide, by decide, by decide, by decide, by decide⟩

/-- WhatIsSentIsAccepted (the longest payload), LaneCarriesMessageWhole (the shortest and a longest message). -/
theorem test_met_messages :
    (List.replicate 56 (0 : Byte)).length ≤ 56 ∧ acceptable (message 0x11 1 2 []) = true ∧
      acceptable (message 0x11 1 2 (List.replicate 56 7)) = true ∧ up.assembly = none := by decide +kernel

/-- StartBeginsMessage: the least and the greatest START, and an assembly that a START alone begins. -/
theorem test_met_start :
    markerOf 0x41 = some (.start 1) ∧ markerOf 0x43 = some (.start 3) ∧ up.assembly = none ∧
      (up.takeLane 0x42 [1, 2, 3]).1.assembly ≠ none := by decide

/-- WrittenEntryReadsBack: the last KEY entry. -/
theorem test_met_write :
    ((255 : Byte).toNat < TableId.key.entries ∧
      TableId.key.entryLength [1, 0, 4, 0, 1, 0, 3, 1, 192, 2] = some 10) ∧
      ∃ t, replaceEntry Tables.reset .key 255 [1, 0, 4, 0, 1, 0, 3, 1, 192, 2] = .ok t := by
  exact ⟨by decide, _, rfl⟩

/-- PageCodecRoundTrip. -/
theorem test_met_page : parsePage [5, 1, 2, 3] = some (.echoBack 0x010203) := by decide

def fullQueue (last : EgressEntry) : State :=
  scene.updPort 3 fun q =>
    { q with egress := List.replicate 15 { bytes := [1], origin := .forwarded, sent := 0 } ++ [last] }

/-- OfferPlacesMessage: the outcomes; a LISTEN in place, with a TALLY that has started before it. -/
theorem test_met_offer :
    (let d : Detail := ⟨1, 2, 0⟩;
    let tally : EgressEntry := { bytes := [4], origin := .tally 21 4, sent := 0 };
    let notice : EgressEntry := { bytes := [3], origin := .notice .port d, sent := 0 };
    let plain : EgressEntry := { bytes := [1], origin := .forwarded, sent := 0 };
    (let q := (fullQueue tally).ports[3];
      q.mode = .locked ∧ q.egress = List.replicate 15 plain ++ tally :: [] ∧
        ∀ x ∈ List.replicate 15 plain, x.sent = 0 → x.origin ≠ .tally 21 4) ∧
    (let old : EgressEntry := { bytes := [5], origin := .listen 21, sent := 0 };
      let begun : EgressEntry := { bytes := [6], origin := .listen 21, sent := 3 };
      let q := (scene.updPort 3 fun q => { q with egress := [begun, old, tally] }).ports[3];
      q.mode = .locked ∧ q.egress = [begun] ++ old :: [tally] ∧
        ∀ x ∈ [begun], x.sent = 0 → x.origin ≠ .listen 21) ∧
    (scene.ports[3].mode = .locked ∧ replaceIn plain scene.ports[3].egress = none ∧
      scene.ports[3].egress.length < 16) ∧
    (let q := (fullQueue notice).ports[3];
      q.mode = .locked ∧ q.egress = List.replicate 15 plain ++ notice :: [] ∧ q.egress.length = 16 ∧
        replaceIn plain q.egress = none) ∧
    (let q := (fullQueue plain).ports[3];
      q.mode = .locked ∧ replaceIn plain q.egress = none ∧ ¬ q.egress.length < 16) ∧
    State.reset.ports[3].mode ≠ .locked) := by decide +kernel

/-- OfferPlacesMessage: no queued own NOTICE that has not started. -/
theorem test_met_no_notice :
    ∀ x ∈ (fullQueue { bytes := [1], origin := .forwarded, sent := 0 }).ports[3].egress, x.sent = 0 →
      ∀ k d, x.origin ≠ .notice k d := by
  have h : (fullQueue { bytes := [1], origin := .forwarded, sent := 0 }).ports[3].egress =
      List.replicate 16 { bytes := [1], origin := .forwarded, sent := 0 } := by decide +kernel
  intro x hx _ k d
  rw [h] at hx
  rw [List.eq_of_mem_replicate hx]
  exact fun h => by cases h

/-- NoticesAndMasks: unmasked with room; masked; unrouted; without room; MASK with the greatest byte, above it in two
bytes, and with room at both ports for a class that is pending. -/
theorem test_met_notices :
    (let s := setMasks (List.replicate 7 2) scene;
    (s.notices[NoticeClass.port.code].mask = false ∧ noticeRoute s = some (6, 9) ∧ hasRoom s 6 = true) ∧
    scene.notices[NoticeClass.port.code].mask = true ∧ noticeRoute State.reset = none ∧
    (noticeRoute { scene with ports := Vector.replicate 8 .reset } = some (6, 9) ∧
      hasRoom { scene with ports := Vector.replicate 8 .reset } 6 = false) ∧
    (List.replicate 7 (2 : Byte)).length = 7 ∧ (∀ b ∈ List.replicate 7 (2 : Byte), b.toNat ≤ 2) ∧
    maskFault [0, 0, 3, 0, 0, 0, 3] = some 2) ∧
    (let s := raiseNotice .port ⟨1, 2, 0⟩ scene;
    let t := after (.mask fromHost 1 (List.replicate 7 2)) s;
    hasRoom t 2 = true ∧ noticeRoute s = some (6, 9) ∧ hasRoom t 6 = true ∧
      s.notices[NoticeClass.port.code].mask = true ∧
      s.notices[NoticeClass.port.code].latest = some ⟨1, 2, 0⟩) := by decide +kernel

/-- PushKeepsNewestFrames: an empty and a full buffer. -/
theorem test_met_push :
    up.slip.length ≤ 8 ∧ (List.replicate 8 silence).length ≤ 8 := by decide

/-- The scene with the sixteenth good arrival to come on port 0, whose panel has a tally that is not IDLE and listens to
destination 1. -/
def acquired : State :=
  (scene.updPort 0 fun _ => { PortState.reset with aligned := true, goodRun := 15 }).updTalk fun a =>
    { a with lastTally := a.lastTally.set 0 ((Vector.replicate 32 Tally.idle).set 4 .talking) }

/-- SixteenthGoodArrivalLocks: the sixteenth. -/
theorem test_met_sixteenth :
    settle acquired = acquired ∧ TablesValid acquired ∧
    (let q := acquired.ports[0];
    q.mode = .acquiring ∧ q.aligned = true ∧ q.received = [] ∧ q.goodRun = 15 ∧ (aFrame 3).length = 55 ∧
      goodFrame (aFrame 3) = true ∧ q.egressDrops ≠ 65535 ∧
      acquired.live.panels[0].inUse = true ∧ portOf acquired.live.panels[0].port = some 0 ∧
      lastTally acquired 0 4 = .talking ∧ destOf acquired.live.panels[0].listen = some 1 ∧
      (receiveBytes 0 (aFrame 3) acquired).ports[0].egressDrops = q.egressDrops) :=
  ⟨test_quiet _ (by decide +kernel) rfl rfl rfl rfl rfl, ⟨test_met_valid, fun _ => test_met_valid⟩, by decide +kernel⟩

/-- SixteenthGoodArrivalLocks: any port of the scene that is silent for less than 8 frames, so a DISABLED one and an
ACQUIRING one; the search at its last byte, aligned and not, of a good frame and of a bad one, and before; good runs of
0 and 14. -/
theorem test_met_search :
    (∀ q : PortState, q.silent < 8 →
      settle { scene with ports := Vector.replicate 8 q } = { scene with ports := Vector.replicate 8 q }) ∧
    (let search (line : List Byte) : List Byte := line.dropWhile fun b => b != 0x5C;
    PortState.reset.mode = .acquiring ∧ PortState.reset.aligned = false ∧ PortState.reset.received = [] ∧
    PortState.reset.goodRun < 15 ∧ ({ PortState.reset with goodRun := 14 } : PortState).goodRun < 15 ∧
    (∀ b ∈ [1, 2, 3], b ≠ (0x5C : Byte)) ∧ (search ([1, 2] ++ [0x5C])).length ≠ 55 ∧
    (∀ f ∈ [aFrame 3, aBadFrame], (search (f.take 54 ++ f.drop 54)).length = 55 ∧ f.length = 55) ∧
    goodFrame (aFrame 3) = true ∧ goodFrame aBadFrame = false) := by
  refine ⟨fun q h => test_quiet _ (fun p => ?_) rfl rfl rfl rfl rfl, by decide +kernel⟩
  show (Vector.replicate 8 q)[p].silent < _
  rw [show (Vector.replicate 8 q)[p] = q from Vector.getElem_replicate _]
  exact h

/-- A message whose first piece waits in the assembly, and the frame of its last. -/
def aMessage (target : Byte) : List Byte := message kindLevel target 10 [192]

def lastPiece (m : List Byte) : List Byte :=
  frameBytes 0 silence (piece { bytes := m, origin := .reply, sent := 3 })

def assembling (m : List Byte) : PortState := { up with assembly := some (m.take 3) }

/-- LockedArrivalIsStored: a good frame with an IDLE marker and with a CONTINUE; frames that complete a message to the
unit address, to all and to another unit; the seventh bad arrival in a row. -/
theorem test_met_locked_arrival :
    (let lane (q : PortState) (f : List Byte) :=
      ((q.stored f).takeLane (f.getD 50 0) [f.getD 51 0, f.getD 52 0, f.getD 53 0]).2;
    settle scene = scene ∧
    (let q := scene.ports[0];
      q.mode = .locked ∧ q.aligned = true ∧ q.received = [] ∧ scene.clock.reference ≠ some 0 ∧
        goodFrame (aFrame 3) = true ∧ (aFrame 3)[50]? = some 0 ∧ lane q (aFrame 3) = none) ∧
    (∀ m ∈ [aMessage 240, aMessage 255, aMessage 33], goodFrame (lastPiece m) = true ∧
      (lastPiece m).length = 55 ∧ lane (assembling m) (lastPiece m) = some m) ∧
    messageOf (.level fromPanel [192]) = some (fromPanel, kindLevel, [192]) ∧
    messageOf (.level { fromPanel with broadcast := true } [192]) =
      some ({ fromPanel with broadcast := true }, kindLevel, [192]) ∧
    (Instr.level fromPanel [192]).wellFormed = true ∧ scene.unit ≠ 255 ∧
    aMessage scene.unit = message kindLevel scene.unit 10 [192] ∧ scene.unit ≠ 33 ∧
    aBadFrame.length = 55 ∧ goodFrame aBadFrame = false ∧ ({ up with badRun := 6 } : PortState).badRun < 7) :=
  ⟨test_quiet _ (by decide +kernel) rfl rfl rfl rfl rfl, by decide +kernel⟩

/-- ReferenceArrivalMakesFrameStart: port 2 in LOCKED; an IDLE frame, one that completes a LEVEL of another unit and one
that completes a LEVEL to the unit address, after which no take is due; the seventh bad arrival in a row; a take due at
the frame start. -/
theorem test_met_reference_arrival :
    (let s (q : PortState) : State :=
      { (scene.updClock fun c => { c with mode := .locked, reference := some 2 }) with
        ports := Vector.replicate 8 q };
    let lane (q : PortState) (f : List Byte) :=
      (q.stored f).takeLane (f.getD 50 0) [f.getD 51 0, f.getD 52 0, f.getD 53 0];
    (∀ q : PortState, q.silent < 8 → settle (s q) = s q) ∧
    (let s₀ := s up;
      s₀.ports[2].mode = .locked ∧ s₀.ports[2].aligned = true ∧ s₀.ports[2].received = [] ∧
        s₀.clock.mode = .locked ∧ s₀.clock.reference = some 2 ∧ (lane s₀.ports[2] (aFrame 0)).2 = none ∧
        takeDue s₀.store.take (s₀.now + 1) = false) ∧
    (∀ target ∈ [240, 33], ∀ (i : Instr), i = (if target = 240 then
        .level { fromPanel with port := 2 } [192] else .forward 2 kindLevel target 10 [192]) →
      (let m := aMessage target;
      let u := after i ((s (assembling m)).updPort 2 fun q => (lane q (lastPiece m)).1);
      (lane (s (assembling m)).ports[2] (lastPiece m)).2 = some m ∧ u.clock.mode = .locked ∧
        u.clock.reference = some 2 ∧ takeDue u.store.take (u.now + 1) = false)) ∧
    (s { up with badRun := 6 }).ports[2].badRun < 7 ∧
    takeDue (some (.scheduled 1 false)) ((s up).now + 1) = true) := by
  refine ⟨?_, by decide +kernel, ?_, by decide +kernel⟩
  · intro q h
    refine test_quiet _ ?_ rfl rfl rfl rfl rfl
    intro p
    show (Vector.replicate 8 q)[p].silent < _
    rw [show (Vector.replicate 8 q)[p] = q from Vector.getElem_replicate _]
    exact h
  intro target ht i hi
  rcases List.mem_cons.1 ht with rfl | ht
  · rw [hi]; decide +kernel
  · rw [List.mem_singleton.1 ht] at hi; rw [List.mem_singleton.1 ht, hi]; decide +kernel

/-- EighthBadArrivalEndsLock: off the reference port, and on it with no take due; the model's free value is one of
the two. -/
theorem test_met_eighth :
    (let s := scene.updPort 2 fun q => { q with badRun := 7 };
    let r := s.updClock fun c => { c with mode := .locked, reference := some 2 };
    settle s = s ∧ settle r = r ∧
    (let q := s.ports[2];
      q.mode = .locked ∧ q.aligned = true ∧ q.received = [] ∧ q.badRun = 7 ∧ goodFrame aBadFrame = false) ∧
    s.clock.reference ≠ some 2 ∧ r.clock.mode = .locked ∧ r.clock.reference = some 2 ∧ r.ports[2].badRun = 7 ∧
      takeDue r.store.take (r.now + 1) = false) ∧
    (Config.lockLostFirst 0 = true ∨ Config.lockLostFirst 0 = false) :=
  ⟨⟨test_quiet _ (by decide +kernel) rfl rfl rfl rfl rfl, test_quiet _ (by decide +kernel) rfl rfl rfl rfl rfl,
    by decide +kernel⟩, by cases Config.lockLostFirst 0 <;> simp⟩

/-- SilenceEndsLock: the panel's key is on the port, whose queue holds an own NOTICE that no other port takes; off the
reference port, and on it. -/
theorem test_met_silence :
    (let x : EgressEntry := { bytes := [1], origin := .notice .clip ⟨1, 0, 0⟩, sent := 0 };
    let s := (scene.updPort 0 fun q => { q with silent := 8, egress := [x] }).updStore fun t =>
      { t with live := { t.live with device := { t.live.device with noticePort := some 0 } } };
    s.ports[0].mode = .locked ∧ s.ports[0].silent = 8 ∧ keyPort s 0 = some 0 ∧ s.clock.reference ≠ some 0 ∧
      x ∈ s.ports[0].egress ∧
      noticeRoute s = some (0, 9) ∧
      (s.updClock fun c => { c with mode := .locked, reference := some 0 }).clock.reference = some 0) := by
  decide +kernel

/-- TimerMakesFrameStart: nothing due at reset, FREE; the carried phase at its bounds; a take that is due. -/
theorem test_met_timer :
    settle State.reset = State.reset ∧ State.reset.clock.mode ≠ .locked ∧ State.reset.store.take = none ∧
      State.reset.clock.phase < State.reset.clock.period ∧ takeDue none 1 = false ∧
      takeDue (some (.scheduled 1 false)) 1 = true ∧
      (let s := scene.updStore fun t => { t with take := some (.scheduled 1 false) };
      settle s = s ∧ s.clock.mode ≠ .locked) :=
  ⟨test_settled Clock.reset rfl rfl, by decide, rfl, by decide, rfl, by decide,
    test_quiet _ (by decide +kernel) rfl rfl rfl rfl rfl, by decide⟩

/-- FillMakesFrameStart: the third and the fourth fill; a take that is due and none. -/
theorem test_met_fill :
    (∀ n : Fin 2,
      let c : Clock := { Clock.reset with mode := .locked, reference := some 2, fillCount := 2 + n.val }
      settle { State.reset with clock := c } = { State.reset with clock := c }) ∧
    takeDue none 1 = false ∧ takeDue (some (.scheduled 1 false)) 1 = true ∧
    (let s := (scene.updClock fun c => { c with mode := .locked, reference := some 2 }).updStore fun t =>
      { t with take := some (.scheduled 1 false) };
    settle s = s ∧ s.clock.mode = .locked ∧ s.clock.reference = some 2) :=
  ⟨fun _ => test_settled _ rfl rfl, rfl, by decide, test_quiet _ (by decide +kernel) rfl rfl rfl rfl rfl, rfl, rfl⟩

/-- PortFrame: ports that read, repeat, abort, idle and are DISABLED. -/
theorem test_met_port_frame :
    (let e : EgressEntry := { bytes := [1, 2, 3, 4, 5, 6], origin := .page, sent := 3 };
    ({ up with slip := [silence], primed := true, egress := [e] } : PortState).slip = silence :: [] ∧
      ({ up with primed := true } : PortState).slip = [] ∧
      ({ PortState.reset with abortOwed := true } : PortState).mode ≠ .disabled ∧
      PortState.reset.mode = .acquiring ∧ PortState.reset.abortOwed = false ∧
      ({ PortState.reset with mode := .disabled } : PortState).mode = .disabled) := by decide +kernel

/-- CandidatesBecomeReference: port 2 at the least qualified run and at 479, and at the settled run; a settled
candidate that a take has just put before the reference. -/
theorem test_met_candidates :
    (let s := scene.updPort 2 fun q => { q with qualification := 480 };
    s.clock.mode ≠ .locked ∧ s.live.device.candidates = [] ++ 2 :: [3] ∧ 480 ≤ s.ports[2].qualification) ∧
    (let s : State := { scene with ports := Vector.replicate 8 { up with qualification := 479 } };
    ∀ q ∈ s.live.device.candidates, s.ports[q].qualification < 480) ∧
    (let s := (scene.updClock fun c => { c with mode := .locked, reference := some 3 });
    let settled := s.updPort 2 fun q => { q with qualification := 48000 };
    s.live.device.candidates = [2] ++ 3 :: [] ∧ (3 : Port) ∉ ([2] : List Port) ∧
      settled.ports[2].qualification = 48000 ∧ (2 : Port) ∉ settled.clock.revertHold ∧
      (∀ q ∈ ([2] : List Port), s.ports[q].qualification < 48000) ∧
      (2 : Port) ∈ (settled.updClock fun c => { c with revertHold := [2] }).clock.revertHold) := by
  decide +kernel

/-- TrainingWindowCloses: the ends of the accepted range, and the tick beyond each. -/
theorem test_met_training :
    [2094975, 2094976, 2099327, 2099328].map (fun n =>
      (Clock.closeWindow { Clock.reset with mode := .locked, window := some ⟨4096, n⟩ } n).period) =
      [8192, 8184, 8200, 8192] := by decide

/-- BadAddressesAreDropped: a LEVEL, and the rows of an unknown panel and an unknown gateway; a FORWARD to address 0. -/
theorem test_met_bad_addresses :
    (let e : Env := { fromPanel with sender := 0 };
    Carries (.level e [1]) scene e 0x11 [1] ∧ Carries (.unknownPanel e true [1]) scene e 0x11 [1] ∧
      Carries (.unknownGateway e [9]) scene e 0x30 [9]) ∧
    scene.unit = 240 ∧ (0 : Byte) ≠ scene.unit ∧ (0 : Byte) ≠ 255 :=
  ⟨⟨.inl rfl, .inr (.inl ⟨by decide +kernel, true, rfl, rfl⟩), .inr (.inr ⟨by decide +kernel, rfl, rfl⟩)⟩,
    by decide +kernel⟩

/-- BroadcastGoesToTrunk: from another port, on the trunk, and with no trunk. -/
theorem test_met_broadcast :
    (let e : Env := { port := 2, broadcast := true, sender := 77 };
    Carries (.statusDevice e 1 [0, 0]) scene e 0x40 [0x31, 1, 0, 0] ∧ badSender scene e.sender = false ∧
      scene.live.device.trunk = some 7 ∧ (7 : Port) ≠ e.port) ∧
    State.reset.live.device.trunk = none := ⟨⟨.inl rfl, by decide +kernel⟩, by decide +kernel⟩

/-- ForwardRoutes: a panel, a gateway, a stranger; the stranger without a trunk. -/
theorem test_met_forward :
    (panelByAddress scene 10 = some 0 ∧ portOf scene.live.panels[0].port = some 0) ∧
      (panelByAddress scene 90 = none ∧ contributorByAddress scene 90 = some 1 ∧
        portOf scene.live.contributors[1].port = some 5) ∧
      (panelByAddress scene 33 = none ∧ contributorByAddress scene 33 = none) ∧
      (33 : Byte) ≠ scene.unit := by decide +kernel

/-- UnusableMessagesAreCounted. -/
theorem test_met_unusable :
    panelHeard scene fromHost = none ∧ contextHeard scene fromHost = none ∧
      (0x20 : Byte) ≠ kindKey ∧ (0x20 : Byte) ≠ kindLevel ∧ (0x20 : Byte) ≠ kindPage ∧
      (0x20 : Byte) ≠ kindRequest ∧ ([0x11] : List Byte).length < 2 ∧ knownName 0x06 = false := by
  decide +kernel

/-- WriteStagesEntry: the last PANEL entry, another of its table and one of another. -/
theorem test_met_write_staged :
    (scene.store.take = none ∧ (63 : Byte).toNat < TableId.panel.entries ∧
      TableId.panel.entryLength [1, 10, 0, 3, 255] = some 5 ∧ (62 : Byte) ≠ 63 ∧ TableId.key ≠ TableId.panel) ∧
      ∃ t, replaceEntry scene.store.staged .panel 63 [1, 10, 0, 3, 255] = .ok t := by
  exact ⟨by decide +kernel, _, rfl⟩

/-- RefusalsLeaveTables: each refusal of WRITE and of TAKE. -/
theorem test_met_refusals :
    TableId.ofCode 8 = none ∧ TableId.panel.entries ≤ (64 : Byte).toNat ∧
      TableId.panel.entryLength [1, 10] ≠ some 2 ∧
      (scene.updStore fun t => { t with take := some (.scheduled 5 false) }).store.take ≠ none ∧
      (match replaceEntry scene.store.staged .panel 0 [1, 0, 0, 3, 255] with
        | .error f => some f
        | .ok _ => none) = some ⟨2, 0⟩ ∧
      ([1] : List Byte).length ≠ 2 ∧ of16 0 1 ≠ scene.store.generation ∧ of16 0 0 = scene.store.generation ∧
      scene.clock.frame.toNat + 28800000 < (of48 0 0 1 0xB7 0x74 1).toNat ∧
      (of48 0 0 1 0xB7 0x74 0).toNat = scene.clock.frame.toNat + 28800000 ∧
      validate scene.unit { someTables with panels := someTables.panels.set 1 aPanel } = some [5, 1, 2] := by
  decide +kernel

/-- RefusalsLeaveTables: rows of CONTRIBUTOR, STATUS, COUNTERS and RESET with another length, and at the least byte
out of range or of no meaning. -/
theorem test_met_other_refusals :
    (let rows (n : Byte) (f : List Byte) (i : Instr) : Prop :=
      messageOf i = some (fromHost, kindRequest, n :: 1 :: f);
    rows nContributor [] (.wake fromHost 1 []) ∧ rows nStatus [] (.statusDevice fromHost 1 []) ∧
      rows nCounters [] (.countersPort fromHost 1 []) ∧ rows nReset [] (.clearTalk fromHost 1 []) ∧
      rows nContributor [8, 0] (.restart fromHost 1 [8, 0]) ∧
      rows nContributor [7, 8] (.restart fromHost 1 [7, 8]) ∧
      rows nContributor [7, 7] (.close fromHost 1 [7, 7]) ∧ scene.live.contributors[7].inUse = false ∧
      rows nStatus [3, 0] (.statusContributor fromHost 1 [3, 0]) ∧
      rows nCounters [4, 0, 0] (.countersPort fromHost 1 [4, 0, 0]) ∧
      rows nCounters [3, 0, 2] (.countersDestination fromHost 1 [3, 0, 2])) ∧
    keyAt scene 0 5 = none ∧ TableId.ofCode 7 ≠ none := by
  refine ⟨⟨rfl, rfl, rfl, rfl, rfl, rfl, rfl, by decide +kernel, rfl, rfl, rfl⟩, by decide +kernel, by decide⟩

/-- TakeIsAccepted: valid tables; an at-frame at the horizon. -/
theorem test_met_take :
    of16 0 0 = scene.store.generation ∧ scene.store.take = none ∧
      validate scene.unit scene.store.staged = none ∧ fromHost.broadcast = false ∧
      (of48 0 0 1 0xB7 0x74 0).toNat = scene.clock.frame.toNat + 28800000 :=
  ⟨by decide +kernel, by decide +kernel, test_met_valid, by decide +kernel, by decide +kernel⟩

/-- ValidTablesAreConsistent: an entry in use, with its return destination. -/
theorem test_met_valid_entry :
    someTables.contributors[1].inUse = true ∧ someTables.destinations[91].exclude = some 83 := by decide +kernel

/-- ReadReturnsEntry: an index beyond the table. -/
theorem test_met_read : TableId.group.entries ≤ (16 : Byte).toNat := by decide

def sceneTaking : State := scene.updStore fun t =>
  { t with
    take := some (.scheduled 8 false)
    staged :=
      { someTables with
        device :=
          { someTables.device with candidates := [], enabled := (Vector.replicate 8 true).set 3 false }
        keys := someTables.keys.set 0 { aKey with priority := 4 }
        contributors := someTables.contributors.set 1 { aContributor with gateway := 91 }
        destinations := someTables.destinations.set 1 { DestinationEntry.reset with exclude := some 3 } } }

/-- TakeExecuteMakesStagedLive and TakeEffects: a take due at frame start 8 and not at 7, which changes a key, a
link, a destination, a port and the candidates and leaves others. -/
theorem test_met_take_execute :
    (let s := sceneTaking.withFrame 7;
    takeDue s.store.take (s.clock.frame + 1) = true ∧ takeDue s.store.take s.clock.frame = false ∧
      s.store.live.keys[0].inUse = true ∧ s.store.live.keys[0] ≠ s.store.staged.keys[0] ∧
      linkChanged s.store.live s.store.staged 1 = true ∧ linkChanged s.store.live s.store.staged 2 = false ∧
      (sceneLinked (inLink .active)).contexts[1].state ≠ .down ∧ s.contexts[2].state ≠ .dormant ∧
      portOf s.store.live.contributors[1].port = some 5 ∧
      s.store.live.destinations[1] ≠ s.store.staged.destinations[1] ∧
      s.store.live.destinations[2] = s.store.staged.destinations[2] ∧
      s.store.live.device.enabled[3] = true ∧ s.store.staged.device.enabled[3] = false ∧
      s.store.live.device.enabled[4] = s.store.staged.device.enabled[4] ∧
      s.store.staged.device.candidates = []) ∧
    ({ scene.store with live := sceneTaking.store.staged, staged := sceneTaking.store.live } :
      TableStore).live.device.enabled[3] = false := by decide +kernel

/-- TakeEffects: a lane of the source that the take excludes, nobody waiting, on ordered destinations. -/
theorem test_met_exclusion :
    (let s := sceneTaking.updDest 1 fun a => { a with lanes := a.lanes.set 0 (.active aClaim) };
    settle s = s ∧ TalkOrdered s ∧ s.store.staged.destinations[1].exclude = some aClaim.talker ∧
      s.talk.dests[1].lanes[0] = .active aClaim ∧ s.talk.dests[1].queue = []) := by
  refine ⟨test_quiet _ (by decide +kernel) rfl rfl rfl rfl rfl, ?_, by decide +kernel, by decide +kernel,
    by decide +kernel⟩
  · intro d
    by_cases h : d = 1
    · subst h
      exact ⟨by decide +kernel, by decide +kernel, by decide +kernel, by decide +kernel, by decide +kernel⟩
    · have hd : (sceneTaking.updDest 1 fun a => { a with lanes := a.lanes.set 0 (.active aClaim) }).talk.dests[d] =
          { lanes := Vector.replicate 4 .free, queue := [], master := 0, talkers := [] } := by
        rw [State.updDest_talk]
        exact (Vector.getElem_set_ne (by decide) d.isLt fun e => h (Fin.ext e.symm)).trans
          (Vector.getElem_replicate _)
      rw [hd]
      exact ⟨by decide, by decide, by decide, by decide, by decide⟩

/-- TakeEffects: what has fallen due leaves a link up and a talk running. -/
theorem test_met_settled_take :
    (settle (sceneLinked (inLink .active))).contexts[1].state ≠ .down ∧
      (settle (scenePressed { pos := .down, refused := false, talk := some (aTalk .held) }
        (.active aClaim))).talk.keys[0].talk ≠ none := by decide +kernel

/-- TakeEffects: REFUSE newly set; a panel's entry changed under its key; a group changed under a talk; an entry put
out of use; a reference that stays a candidate and one that does not. -/
theorem test_met_take_more :
    (let refusing : DestinationEntry := { DestinationEntry.reset with refuse := true };
    DestinationEntry.reset.refuse = false ∧ refusing.refuse = true) ∧
    panelOf someTables.keys[0].panel = some 0 ∧ aPanel ≠ { aPanel with listen := 2 } ∧
    ({ aKey with kind := 1, target := 0 } : KeyEntry).kind = 1 ∧
    groupOf ({ aKey with kind := 1, target := 0 } : KeyEntry).target = some 0 ∧
    someTables.groups[0] ≠ [1] ∧
    (scenePressed { pos := .down, refused := false, talk := some (aTalk .held) } (.active aClaim)).talk.keys[0].talk ≠
      none ∧
    aContributor.inUse = true ∧ ContributorEntry.reset.inUse = false ∧
    (let s := scene.updClock fun c => { c with mode := .locked, reference := some 3 };
    s.clock.reference = some 3 ∧ (3 : Port) ∈ someTables.device.candidates ∧
      someTables.device.enabled[(3 : Port)] = true ∧ (3 : Port) ∉ ([2] : List Port)) := by decide +kernel

/-- TakeExecuteMakesStagedLive, the take that changes nothing: at reset, on a clock without candidates; and on a clock
whose reference is a candidate. -/
theorem test_met_empty_take :
    (let s := State.reset.updStore fun t => { t with take := some (.immediate 2 77 3 1) };
    takeDue s.store.take (s.clock.frame + 1) = true ∧ s.store.staged = s.store.live ∧
      s.live.device.candidates = [] ∧ s.clock.mode = .free) ∧
    scene.live.device.candidates = [2, 3] ∧ scene.live.device.enabled[(2 : Port)] = true ∧
      scene.store.staged = scene.store.live :=
  ⟨⟨rfl, rfl, rfl, rfl⟩, by decide +kernel, by decide +kernel, rfl⟩

/-- TakeExecuteMakesStagedLive: a take that changes the notice routing alone, with a CALL notice pending. -/
theorem test_met_routing :
    (let s : State :=
      { State.reset with
        ports := Vector.replicate 8 up
        notices := State.reset.notices.set NoticeClass.call.code
          { mask := false, pending := true, latest := some ⟨1, 0, 0⟩ }
        store :=
          { live := Tables.reset
            staged :=
              { Tables.reset with
                device := { Tables.reset.device with noticePort := some 3, noticeAddress := some 9 } }
            generation := 0, take := some (.scheduled 1 false) } };
    settle s = s ∧ PanelsTold s ∧ takeDue s.store.take (s.clock.frame + 1) = true ∧
      s.store.staged.device.noticePort = some 3 ∧ s.store.staged.device.noticeAddress = some 9 ∧
      s.store.live.device.noticePort ≠ some 3 ∧ s.ports[(3 : Port)].mode = .locked ∧
      s.ports[(3 : Port)].egress.length ≤ 8 ∧ s.notices[NoticeClass.call.code].mask = false ∧
      s.notices[NoticeClass.call.code].pending = true ∧ s.store.live.device.candidates = [] ∧
      s.clock.mode = .free) ∧
    Tables.reset.device.noticePort = none ∧ scene.live.device.candidates = [2, 3] :=
  ⟨⟨test_quiet _ (by
      intro p
      show (Vector.replicate 8 up)[p].silent < _
      rw [show (Vector.replicate 8 up)[p] = up from Vector.getElem_replicate _]
      decide) rfl rfl rfl rfl rfl, test_panels_told _ rfl rfl, by decide, rfl, rfl, by decide, rfl, by decide, rfl, rfl,
    rfl, rfl⟩, rfl, by decide +kernel⟩

/-- CancelAndRevert: a scheduled take, none, and an immediate take sent through the port of the CANCEL, which drops
nothing. -/
theorem test_met_cancel :
    sceneTaking.store.take = some (.scheduled 8 false) ∧ scene.store.take = none ∧
    (let s := scene.updStore fun t => { t with take := some (.immediate 2 77 3 1) };
    let t := after (.cancel fromHost 1 []) s;
    s.ports[2].mode = .locked ∧ s.ports[2].egressDrops ≠ 65535 ∧
      t.ports[2].egressDrops = s.ports[2].egressDrops) := by decide +kernel

/-- SlewReachesTarget: up, down, and within 256 n. -/
theorem test_met_slew : 0 ≤ 16384 ∧ 16384 ≤ 0 + 256 * 64 ∧ 0 ≤ 16384 + 256 * 64 := by decide

/-- OutputIsRoundedClampedSum: sources silenced and heard. -/
theorem test_met_sources :
    State.reset.ports[0].mode ≠ .locked ∧ up.primed = false ∧
      contributorOfSource scene 83 = some 1 ∧ scene.contexts[1].state ≠ .active ∧
      scene.contexts[1].state ≠ .linecheck ∧ contributorOfSource scene 3 = none ∧
      ({ up with primed := true } : PortState).mode = .locked := by decide +kernel

/-- OutputIsRoundedClampedSum: section 5.7.2's two slots clip, the same slots at −8,000,000 clip below, and a silent
destination does not. -/
theorem test_met_clip :
    roundHalfAway (roundHalfAway 1048560000000 * 16384) > 8388607 ∧
      roundHalfAway (roundHalfAway (-1048560000000) * 16384) < -8388608 ∧ roundHalfAway 0 = 0 := by decide

/-- OutputIsRoundedClampedSum: a return destination in LINECHECK, away, shut and neither; an interrupting lane; a
configured and a fading slot; a first clip. -/
theorem test_met_targets :
    (let s := sceneLinked (inLink .linecheck);
    contributorOfReturn s 91 = some 1 ∧ s.contexts[1].state = .linecheck ∧
      sourceOf s.live.contributors[1].source = some 83) ∧
    (inLink .dormant).state ≠ .active ∧ (inLink .dormant).state ≠ .standby ∧
    (inLink .active).state ≠ .linecheck ∧ (inLink .active).returnMode ≠ .talkbackOnly ∧
    (inLink .active).longDelay = false ∧
    ({ inLink .active with longDelay := true } : Context).longDelay = true ∧
    (let s := scenePressed { pos := .down, refused := false, talk := some (aTalk .held) } (.active aClaim);
    s.talk.dests[1].lanes[0] = .active aClaim ∧ aClaim.interrupt = true ∧ scene.talk.dests[1].lanes[0] = .free) ∧
    (let e : DestinationEntry := { DestinationEntry.reset with mix := [(40, 192), (5, 186)] };
    e.mix = [((40 : Source), (192 : Byte))] ++ (5, 186) :: [] ∧ ∀ it ∈ [((40 : Source), (192 : Byte))], it.1 ≠ 5) ∧
    (let slot : Slot := { state := .configured, source := some 5, applied := 100 };
    slot.state = .configured ∧ slot.source = some 5 ∧
      ({ slot with state := .fading } : Slot).state = .fading ∧ slew 100 0 = 0 ∧ slew 300 0 ≠ 0 ∧
      Slot.reset.state = .empty) := by decide +kernel

theorem test_met_first_clip :
    (let loud : MixState :=
      { MixState.reset with
        master := 16384, programme := 65535, dim := 16384 };
    let s : State :=
      { (scene.updMix 1 fun _ => loud) with
        ports := Vector.replicate 8 { up with primed := true, lastRead := Vector.replicate 16 8000000 } };
    let e : DestinationEntry := { DestinationEntry.reset with programme := some 5, programmeCode := 255 };
    let s := s.updStore fun t =>
      { t with live := { t.live with destinations := t.live.destinations.set 1 e } };
    (mixDest s 1).clipFlag = true ∧ s.mix[1].clipFlag = false) := by decide +kernel

/-- ReconcileFollowsNewList: a list of the greatest length. -/
theorem test_met_reconcile :
    (let mix : List (Source × Byte) := (List.finRange 12).map fun i => (Fin.castLE (by omega) i, 192);
    let slots : Vector Slot 16 := Vector.replicate 16 .reset;
    mix.length ≤ 12 ∧ (mix.map Prod.fst).Nodup ∧ (∀ it ∈ mix, some it.1 ≠ some 40) ∧
      (∀ i : SlotNo, slots[i].state = .empty ↔ slots[i].source = none) ∧
      ∀ i j : SlotNo, slots[i].source ≠ none → slots[i].source = slots[j].source → i = j) := by
  refine ⟨by decide +kernel, by decide +kernel, fun it h e => ?_, by decide +kernel, by decide +kernel⟩
  obtain ⟨i, -, rfl⟩ := List.mem_map.1 h
  have : i.val = 40 := congrArg Fin.val (Option.some.inj e)
  exact absurd i.isLt (by omega)

/-- KeyDownBeginsTalk: a FREE lane 0; a group of a target that takes the talk and one that excludes it; a repeat; a
press that answers a call, with a KEY entry and without; a position with neither. -/
theorem test_met_key_down :
    panelHeard scene fromPanel = some 0 ∧ callsAt scene 0 4 = [] ∧ keyAt scene 0 4 = some 0 ∧
      scene.talk.keys[0] = { pos := .up, refused := false, talk := none } ∧ scene.live.keys[0].kind = 0 ∧
      destOf scene.live.keys[0].target = some 1 ∧ talkerOf scene scene.live.keys[0] = some 3 ∧
      scene.live.destinations[1].refuse = false ∧ scene.live.destinations[1].exclude ≠ some 3 ∧
      findClaim scene.talk.dests[1] 3 = none ∧ scene.talk.dests[1].lanes[0] = .free ∧ talkCount scene < 64 ∧
      badSender scene 10 = false ∧ keyAt scene 0 9 = none ∧ callsAt scene 0 9 = [] := by decide +kernel

theorem test_met_key_down_more :
    (let s := scene.updStore fun t =>
      { t with live := { t.live with
          keys := t.live.keys.set 0 { aKey with kind := 1, target := 15 }
          groups := t.live.groups.set 15 [1, 2]
          destinations := t.live.destinations.set 2 { DestinationEntry.reset with exclude := some 3 } } };
    s.live.keys[0].kind = 1 ∧ groupOf s.live.keys[0].target = some 15 ∧ s.live.groups[15] = [1, 2] ∧
      ([1, 2] : List Dest).Nodup ∧ s.live.destinations[1].exclude ≠ some 3 ∧
      s.live.destinations[2].exclude = some 3 ∧ findClaim s.talk.dests[1] 3 = none ∧
      s.talk.dests[1].lanes[0] = .free) ∧
    (scenePressed { pos := .down, refused := false, talk := none } .free).talk.keys[0].pos ≠ .up ∧
    (let s := scene.updTalk fun a => { a with calling := a.calling.set 1 true };
    callsAt s 0 9 ≠ [] ∧ keyAt s 0 9 = none ∧
      (let s' := s.updStore fun t =>
        { t with live := { t.live with keys := t.live.keys.set 0 { aKey with number := 9 } } };
      callsAt s' 0 9 ≠ [] ∧ keyAt s' 0 9 = some 0 ∧ fromPanel.broadcast = false)) ∧
    (let s := (sceneLinked (inLink .dormant)).updStore fun t =>
      { t with live := { t.live with keys := t.live.keys.set 0 { aKey with target := 91 } } };
    s.contexts[1].state = .dormant ∧ s.live.contributors[1].wakeOnTalk = 1 ∧
      contributorOfReturn s 91 = some 1) := by decide +kernel

theorem test_met_key_down_refused :
    (let full := scene.updTalk fun t =>
      { t with keys := Vector.ofFn fun k => if 1 ≤ k.val ∧ k.val ≤ 64 then
          { pos := .down, refused := false, talk := some (aTalk .held) } else t.keys[k] };
    talkCount full = 64 ∧ full.talk.keys[0] = { pos := .up, refused := false, talk := none }) ∧
    ({ DestinationEntry.reset with refuse := true, exclude := some 3 } : DestinationEntry).refuse = true ∧
    ([4] : List Byte).length ≠ 2 ∧ 31 < (32 : Byte).toNat ∧ 1 < (2 : Byte).toNat := by
  decide +kernel

/-- The scene with key 0's talk, whose claim in lane 0 of destination 1 key 1 shares at a lower priority; a claim of
priority 2 waits. -/
def sceneShared : State :=
  let low : Ref := { key := 1, priority := 1, interrupt := false, gain := 180 }
  (scene.updKey 0 fun _ => { pos := .down, refused := false, talk := some (aTalk .held) }).updDest 1 fun a =>
    { a with
      lanes := #v[.active { aClaim with refs := aClaim.refs ++ [low] }, .active (claimOf 61 2 1),
        .releasing (some (claimOf 62 5 2)), .active (claimOf 63 6 3)]
      queue := [claimOf 64 2 0] }

/-- TalkEndsFreesLane: a claim that keeps a reference and falls below the one that waits; one that waits itself; one
alone in its lane, another waiting. -/
theorem test_met_talk_falls :
    (let s := sceneShared;
    let a := s.talk.dests[1];
    let low : Ref := { key := 1, priority := 1, interrupt := false, gain := 180 };
    let c : Claim := { aClaim with refs := aClaim.refs ++ [low] };
    let refs := c.refs.filter fun r => r.key != 0;
    keyAt s 0 4 = some 0 ∧ s.talk.keys[0].talk = some (aTalk .held) ∧ findClaim a 3 = some (.active 0, c) ∧
      refs ≠ [] ∧ (c.derive refs).priority < (claimOf 64 2 0).priority ∧ a.queue.length ≤ 8) ∧
    findClaim sceneShared.talk.dests[1] 64 = some (.waiting, claimOf 64 2 0) ∧
    (let s := sceneShared.updDest 1 fun a => { a with lanes := a.lanes.set 0 (.active aClaim) };
    findClaim s.talk.dests[1] 3 = some (.active 0, aClaim) ∧ (aClaim.refs.filter fun r => r.key != 0) = []) := by
  decide +kernel

/-- TalkEndsFreesLane: the shared destination is in order. -/
theorem test_met_shared_order : sceneShared.talk.dests[1].Ordered where
  one := by decide +kernel
  derived := by decide +kernel
  full := by decide +kernel
  sorted := by decide +kernel
  below c hc l o ho := by
    have low : ∀ l : LaneNo,
        (sceneShared.talk.dests[1].lanes[l].occupant.all fun o => decide (2 ≤ o.priority)) = true := by decide +kernel
    have hl := low l
    rw [ho] at hl
    have hq : sceneShared.talk.dests[1].queue = [claimOf 64 2 0] := by decide +kernel
    rw [hq] at hc
    rw [List.mem_singleton.1 hc]
    simpa [claimOf] using hl

/-- TalkEndsFreesLane: HELD and DOWN; LATCHED and UP; a latch timeout just due. -/
theorem test_met_talk_ends :
    (let s := scenePressed { pos := .down, refused := false, talk := some (aTalk .held) } (.active aClaim);
    keyAt s 0 4 = some 0 ∧ s.talk.keys[0].talk = some (aTalk .held) ∧ (aTalk .held).claims = [⟨3, 1⟩] ∧
      findClaim s.talk.dests[1] 3 = some (.active 0, aClaim) ∧ (∀ r ∈ aClaim.refs, r.key = 0) ∧
      s.talk.dests[1].queue = [] ∧ panelHeard s fromPanel = some 0 ∧ s.talk.keys[0].pos = .down) ∧
    (let s := scenePressed { pos := .up, refused := false, talk := some (aTalk .latched) } (.active aClaim);
    callsAt s 0 4 = [] ∧ s.talk.keys[0].pos = .up ∧ (aTalk .latched).state = .latched ∧
      (aTalk .latched).latch = some 7 ∧ s.live.keys[0].timeout ≠ 0 ∧
      s.live.keys[0].timeout.toNat * 48000 = (s.withFrame 96007).since 7) := by decide +kernel

/-- PanelEventsThatMoveNoClaim: each kind of UP, the two sides of the AUTO threshold, and listening to none. -/
theorem test_met_panel_events :
    (let s (p : KeyPos) (t : Option Talk) := scenePressed { pos := p, refused := true, talk := t } .free;
    keyAt (s .down none) 0 4 = some 0 ∧ (s .down none).talk.keys[0].talk = none ∧
      showsCalling (s .down none) 0 4 = false ∧
      (s .down (some (aTalk .autoUndecided))).talk.keys[0].talk = some (aTalk .autoUndecided) ∧
      (s .down (some (aTalk .latched))).talk.keys[0].talk = some (aTalk .latched) ∧
      (s .downSpent none).talk.keys[0].pos = .downSpent ∧
      (scene.withFrame 12007).since 7 = 12000 ∧ (scene.withFrame 12006).since 7 < 12000) ∧
    destOf scene.live.panels[0].listen = some 1 ∧ ({ aPanel with listen := 255 } : PanelEntry).listen = 255 ∧
    ([] : List Byte).length ≠ 1 := by decide +kernel

/-- PlacementOrder: FREE; RELEASING with no claim; preemption of lane 1; waiting; a full queue either way. -/
theorem test_met_placement :
    (let a := earpiece.talk.dests[1];
    scene.talk.dests[1].lanes[0] = .free ∧
    (let s := earpiece.updDest 1 fun a => { a with lanes := a.lanes.set 2 (.releasing none) };
      (∀ j : LaneNo, s.talk.dests[1].lanes[j] ≠ .free) ∧ s.talk.dests[1].lanes[2] = .releasing none ∧
        ∀ j : LaneNo, s.talk.dests[1].lanes[j] = .releasing none → j = 2) ∧
    (∀ l : LaneNo, a.lanes[l].occupant ≠ none) ∧ a.queue = [] ∧
    a.lanes[1].occupant = some (claimOf 51 3 180000) ∧ (claimOf 51 3 180000).priority < (claimOf 54 7 0).priority ∧
    (claimOf 55 3 0).priority ≤ 3) ∧
    (let kept := List.replicate 7 (claimOf 60 3 0);
    (kept ++ [claimOf 61 2 0]).length = 8 ∧ (claimOf 61 2 0).priority < (claimOf 55 3 0).priority ∧
      (claimOf 55 2 0).priority ≤ (claimOf 61 2 0).priority ∧
      (claimOf 61 2 0).priority < (claimOf 51 3 180000).priority ∧
      (claimOf 51 3 180000).priority ≤ (claimOf 62 3 0).priority ∧
      (kept ++ [claimOf 61 2 0]).Pairwise (fun x y => y.priority ≤ x.priority) ∧
      (kept ++ [claimOf 62 3 0]).Pairwise fun x y => y.priority ≤ x.priority) ∧
    (let t : Talk := { aTalk .held with claims := [⟨61, 1⟩, ⟨61, 2⟩] };
    (scene.updKey 9 fun r => { r with talk := some t }).talk.keys[9].talk = some t ∧
      ∃ ref ∈ (claimOf 61 2 0).refs, ref.key = 9) :=
  ⟨by decide +kernel, by decide +kernel, by decide +kernel, _, List.mem_cons_self, rfl⟩

/-- PlacementOrder, the join: a claim with 4 references and with 3, ACTIVE, BOUND and WAITING; a reference that raises
a waiting claim above an occupant, up to the occupants, and one that does not. -/
theorem test_met_join :
    (let r (p : Nat) : Ref := { key := 1, priority := p, interrupt := false, gain := 200 };
    let joined (n : Nat) : Claim := { claimOf 60 2 5 with refs := List.replicate n (r 2) };
    let place (a : Arbitration) := findClaim a 60;
    let a := earpiece.talk.dests[1];
    4 ≤ (joined 4).refs.length ∧ (joined 3).refs.length < 4 ∧
    place { a with lanes := a.lanes.set 0 (.active (joined 3)) } = some (.active 0, joined 3) ∧
    place { a with lanes := a.lanes.set 0 (.releasing (some (joined 3))) } = some (.bound 0, joined 3) ∧
    place { a with queue := [joined 3] } = some (.waiting, joined 3) ∧
    [2, 3, 4].map (fun p => ((joined 3).refs ++ [r p]).foldl (fun m y => max m y.priority) 0) = [2, 3, 4] ∧
    a.lanes[1].occupant = some (claimOf 51 3 180000) ∧ (claimOf 51 3 180000).priority < 4 ∧
    (let b : Vector Lane 4 := a.lanes.set 0 (.active (claimOf 50 4 100000));
    ∀ (j : LaneNo) (y : Claim), b[j].occupant = some y → j ≠ 1 → 3 < y.priority)) ∧
    scene.live.destinations[1].refuse = false ∧ scene.live.destinations[1].exclude ≠ some 60 := by
  refine ⟨⟨by decide, by decide, by decide +kernel, by decide +kernel, by decide +kernel, by decide,
    by decide +kernel, by decide, ?_⟩, by decide +kernel, by decide +kernel⟩
  intro b j y hy hj
  have h : ∀ j : LaneNo, j ≠ 1 →
      ((earpiece.talk.dests[1].lanes.set 0 (.active (claimOf 50 4 100000)) : Vector Lane 4)[j].occupant.all
        fun y => decide (3 < y.priority)) = true := by decide +kernel
  have := h j hj
  rw [hy] at this
  simpa using this

/-- DrainedLaneIsAnswered: a bound claim and none at coefficient 0; not at 0. -/
theorem test_met_drained :
    (let s (b : Option Claim) := scenePressed { pos := .up, refused := false, talk := none } (.releasing b);
    (s (some aClaim)).talk.dests[1].lanes[0] = .releasing (some aClaim) ∧
      (s none).talk.dests[1].lanes[0] = .releasing none ∧ (s none).mix[1].lanes[0].applied = 0 ∧
      ((s none).updTerm 1 0 fun t => { t with applied := 1 }).mix[1].lanes[0].applied ≠ 0) := by decide +kernel

/-- BaseOpensNegotiation and every statement about a page: the context; the states of its clauses; offers with a way of
return in common and without. -/
theorem test_met_pages :
    badSender scene 90 = false ∧ contextHeard scene fromGateway = some 1 ∧ scene.contexts[1].state = .down ∧
      (let x : Context := { inLink .negotiating with gatewayToggle := some true, lastReply := some [4, 1, 1, 0] };
      x.state = .negotiating ∧ x.gatewayToggle ≠ some false ∧ x.gatewayToggle = some true ∧
        x.lastReply = some [4, 1, 1, 0]) ∧
      (inLink .active).state ≠ .negotiating ∧ (inLink .active).gatewayToggle ≠ some true ∧
      (sharedAbilities gatewayOffers scene.live.contributors[1].offers).talkbackReturn = true ∧
      (sharedAbilities ⟨false, false, true, true⟩ scene.live.contributors[1].offers).fullReturn = false ∧
      (sharedAbilities ⟨false, false, true, true⟩ scene.live.contributors[1].offers).talkbackReturn = false := by
  decide +kernel

/-- NextPagesNegotiate: before the BASE, within, and at the last page with a common way of return or none; a repeat in
NEGOTIATING and in ACTIVE; a page that is no repeat in ACTIVE, and any in DOWN. -/
theorem test_met_next_pages :
    (inLink .negotiating).progress = .awaitBase ∧
      (let x : Context := { inLink .negotiating with progress := .awaitNext, gatewayOffer := some gatewayOffers };
      x.progress = .awaitNext ∧ x.gatewayToggle ≠ some true ∧
        (sharedAbilities (x.gatewayOffer.getD Abilities.nothing) aContributor.offers).talkbackReturn = true) ∧
      (let o := sharedAbilities ((inLink .negotiating).gatewayOffer.getD Abilities.nothing) aContributor.offers;
      o.fullReturn = false ∧ o.talkbackReturn = false) ∧
      (∀ st ∈ [LinkState.negotiating, .active],
        let x : Context := { inLink st with gatewayToggle := some true, lastReply := some [4, 1, 1, 0] }
        x.state ≠ .down ∧ x.gatewayToggle = some true ∧ x.lastReply = some [4, 1, 1, 0]) ∧
      (inLink .active).state ≠ .negotiating ∧ (inLink .active).gatewayToggle ≠ some true ∧
      (inLink .down).state = .down := by decide +kernel

/-- EchoBackMeasuresDelay: an answer of 96,000 frames, a stale one, and none outstanding. -/
theorem test_met_echo :
    (let x : Context := { inLink .active with echoOutstanding := true, latestStamp := 0xFFFFFF };
    x.state = .active ∧ x.echoOutstanding = true ∧ (0xFFFFFF : BitVec 24) = x.latestStamp ∧
      (((scene.withFrame 95999).now.toNat + 2 ^ 24 - (0xFFFFFF : BitVec 24).toNat) % 2 ^ 24 = 96000) ∧
      (((scene.withFrame 96000).now.toNat + 2 ^ 24 - (0xFFFFFF : BitVec 24).toNat) % 2 ^ 24 = 96001) ∧
      (inLink .active).echoOutstanding = false) := by decide +kernel

/-- CallResumeAndClosePages. -/
theorem test_met_call :
    ({ inLink .dormant with resolved := ⟨true, true, true, true⟩ } : Context).resolved.callCapable = true ∧
      (inLink .dormant).resolved.callCapable = false ∧ (inLink .waking).state = .waking ∧
      (inLink .closing).state = .closing ∧ parsePage [6, 6] = none ∧ parsePage [] = none := by decide

/-- ContextTimers: each at its moment and one frame before, and at its last attempt. -/
theorem test_met_timers :
    (scene.withFrame 24000).since 0 = 24000 ∧ (scene.withFrame 23999).since 0 < 24000 ∧
      (scene.withFrame 48000).since 0 = 48000 ∧ (scene.withFrame 47999).since 0 < 48000 ∧
      (scene.withFrame 480000).since 0 = 480000 ∧
      ({ inLink .negotiating with restartAttempts := 3 } : Context).restartAttempts = 3 ∧
      ({ inLink .waking with wakeAttempts := 3 } : Context).wakeAttempts = 3 ∧
      ({ inLink .active with echoOutstanding := true, missCount := 2 } : Context).missCount = 2 := by
  decide +kernel

/-- ContributorCommands: the entry in use, and each state that a command needs. -/
theorem test_met_commands :
    scene.live.contributors[1].inUse = true ∧ (inLink .active).state = .active ∧
      (inLink .standby).state = .standby ∧ (inLink .dormant).state = .dormant ∧
      (inLink .linecheck).state = .linecheck ∧ scene.contexts[1].state = .down ∧
      ({ inLink .active with resolved := ⟨true, true, true, true⟩ } : Context).resolved.dormantCapable = true := by
  decide +kernel

/-- Every statement that says where a reply or a page stands: a port with room, one that drops nothing, in a command
that is answered and in one that sends pages. -/
theorem test_met_room :
    hasRoom scene 2 = true ∧ hasRoom scene 5 = true ∧ scene.ports[2].egressDrops ≠ 65535 ∧
      scene.ports[5].mode = .locked ∧ fromHost.broadcast = false ∧
      (let s := sceneLinked (inLink .standby);
      let t := after (.activate fromHost 1 [1, 2]) s;
      t.ports[2].egressDrops = s.ports[2].egressDrops ∧ t.ports[5].egressDrops = s.ports[5].egressDrops) := by
  decide +kernel

/-- StatusAndQueueReports and CountersReadAndClear: room at the arrival port and at the notice port after STATUS; an
arrival port with a queue below 16, a full one with an own NOTICE that has not started, and a full one without. -/
theorem test_met_reports :
    (let s := setMasks (List.replicate 7 2) (raiseNotice .port ⟨1, 2, 0⟩ scene);
    let t := after (.statusDevice fromHost 1 [0, 0]) s;
    noticeRoute s = some (6, 9) ∧ hasRoom s 2 = true ∧ hasRoom t 2 = true ∧ hasRoom t 6 = true ∧
      s.notices[NoticeClass.port.code].mask = false ∧ s.notices[NoticeClass.port.code].latest ≠ none) ∧
    (3 : Port) ≠ fromHost.port ∧ (scene.ports[2].mode = .locked ∧ scene.ports[2].egress.length < 16) ∧
    (let x : EgressEntry := { bytes := [3], origin := .notice .port ⟨1, 2, 0⟩, sent := 0 };
    x ∈ (fullQueue x).ports[3].egress ∧ x.sent = 0) ∧
    (fullQueue { bytes := [1], origin := .forwarded, sent := 0 }).ports[3].egress.length = 16 := by
  decide +kernel

end Sys2Proof.Tests
end

-- ==== The receive assembly (section 2.2) ====
section
/-!
R23: what a discard and each marker do to the receive assembly of a port.
-/
namespace Sys2Proof.Machine

namespace PortState
variable (q : PortState)

/-! ### The discard of a message in assembly -/

/-- In ASSEMBLING a discard counts a fragment, in WAITING nothing; both end in WAITING. -/
theorem discardFragment_eq :
    q.discardFragment =
      { q with
          assembly := none
          fragments := if q.assembly.isSome then bump q.fragments else q.fragments } := by
  unfold discardFragment
  split
  case h_1 m h => simp [h]
  case h_2 h => rw [if_neg (by simp [h]), ← h]

@[simp] theorem discardFragment_assembly : q.discardFragment.assembly = none := by
  rw [discardFragment_eq]

/-! ### The markers -/

variable {q}

theorem takeLane_start {b : Byte} {n : Nat} (data : List Byte) (hb : markerOf b = some (.start n)) :
    q.takeLane b data = ({ q.discardFragment with assembly := some (data.take n) }, none) := by
  simp [takeLane, hb]

/-- In WAITING every marker but START is passed over: it leaves the port in WAITING. -/
theorem takeLane_waiting_of_not_start {b : Byte} (data : List Byte) (hq : q.assembly = none)
    (hb : ∀ n, markerOf b ≠ some (.start n)) : (q.takeLane b data).1.assembly = none := by
  unfold takeLane
  cases hm : markerOf b with
  | none => simp
  | some m =>
    cases m with
    | start n => exact absurd hm (hb n)
    | abort => simp
    | idle | more n | finish n => simp [hq]

end PortState

end Sys2Proof.Machine

namespace Sys2Proof.ControlLane
open Sys2Proof.Machine

/-- Settles O16: a START's discard is `discardFragment`, and in WAITING only a START puts a message in assembly. -/
theorem startBeginsMessage : Obligations.StartBeginsMessage := by
  constructor
  · intro q n b x y z hb
    rw [PortState.takeLane_start _ hb, PortState.discardFragment_eq]
  · intro q b data hq hleft
    refine Classical.byContradiction fun hnot => hleft ?_
    exact PortState.takeLane_waiting_of_not_start data hq (not_exists.1 hnot)

end Sys2Proof.ControlLane
end

-- ==== The default law (section 3.4) ====
section
/-!
R44: the bitwise search of the default law ends at the integer between the two exact comparisons that
define rounding, whatever the code.
-/
namespace Sys2Proof.Machine

/-! ### One comparison -/

/-- The comparison of the search, cleared of the truncated exponents that keep its numbers small. -/
theorem lawReaches_iff (c k : Nat) :
    lawReaches c k = true ↔ (2 * k - 1) ^ 40 * 10 ^ 192 ≤ 32768 ^ 40 * 10 ^ c := by
  rw [lawReaches, decide_eq_true_iff]
  rcases Nat.le_total c 192 with hc | hc
  · have hsplit : 10 ^ 192 = 10 ^ (192 - c) * 10 ^ c := by rw [← Nat.pow_add, Nat.sub_add_cancel hc]
    rw [Nat.sub_eq_zero_of_le hc, Nat.pow_zero, Nat.mul_one, hsplit, ← Nat.mul_assoc,
      Nat.mul_le_mul_right_iff (Nat.pow_pos (by decide))]
  · have hsplit : 10 ^ c = 10 ^ (c - 192) * 10 ^ 192 := by rw [← Nat.pow_add, Nat.sub_add_cancel hc]
    rw [Nat.sub_eq_zero_of_le hc, Nat.pow_zero, Nat.mul_one, hsplit, ← Nat.mul_assoc,
      Nat.mul_le_mul_right_iff (Nat.pow_pos (by decide))]

/-! ### The search: below its limit, at its start or reached, and no further step reached -/

theorem lawSearch_lt (c bits base : Nat) : lawSearch c bits base < base + 2 ^ bits := by
  induction bits generalizing base with
  | zero => exact Nat.lt_succ_self base
  | succ bits ih =>
    have hup := ih (base + 2 ^ bits)
    have hstay := ih base
    rw [lawSearch, Nat.pow_succ]
    split <;> omega

theorem lawSearch_reached (c bits base : Nat) :
    lawSearch c bits base = base ∨ lawReaches c (lawSearch c bits base) = true := by
  induction bits generalizing base with
  | zero => exact .inl rfl
  | succ bits ih =>
    rw [lawSearch]
    split
    case isTrue hreach =>
      rcases ih (base + 2 ^ bits) with hbase | hreached
      · exact .inr (hbase.symm ▸ hreach)
      · exact .inr hreached
    case isFalse => exact ih base

theorem lawSearch_succ_not_reached (c bits base : Nat) :
    lawSearch c bits base + 1 = base + 2 ^ bits ∨ ¬ lawReaches c (lawSearch c bits base + 1) = true := by
  induction bits generalizing base with
  | zero => exact .inl rfl
  | succ bits ih =>
    rw [lawSearch, Nat.pow_succ]
    split
    case isTrue => exact (ih (base + 2 ^ bits)).imp_left fun hlast => by omega
    case isFalse hnot =>
      rcases ih base with hlast | hnext
      · exact .inr (hlast.symm ▸ hnot)
      · exact .inr hnext

/-! ### The coefficient -/

@[simp] theorem defaultCoefficient_zero : defaultCoefficient 0 = 0 := rfl

variable {c : Nat}

theorem toNat_defaultCoefficient (hc : c ≠ 0) : (defaultCoefficient c).toNat = lawSearch c 16 0 := by
  have hlt := lawSearch_lt c 16 0
  rw [defaultCoefficient, if_neg hc, BitVec.toNat_ofNat, Nat.mod_eq_of_lt (by omega)]

/-- Rounding up at most by a half: the coefficient, less a half, is at most the law. -/
theorem defaultCoefficient_lower (hc : c ≠ 0) (hk : (defaultCoefficient c).toNat ≠ 0) :
    (2 * (defaultCoefficient c).toNat - 1) ^ 40 * 10 ^ 192 ≤ 32768 ^ 40 * 10 ^ c := by
  rw [toNat_defaultCoefficient hc] at hk ⊢
  exact (lawReaches_iff ..).1 ((lawSearch_reached c 16 0).resolve_left hk)

/-- Rounding down by less than a half: below the limit the coefficient, more a half, exceeds the law. -/
theorem defaultCoefficient_upper (hc : c ≠ 0) :
    (defaultCoefficient c).toNat = 65535 ∨
      32768 ^ 40 * 10 ^ c < (2 * (defaultCoefficient c).toNat + 1) ^ 40 * 10 ^ 192 := by
  rw [toNat_defaultCoefficient hc]
  rcases lawSearch_succ_not_reached c 16 0 with hlast | hnext
  · exact .inl (by omega)
  · rw [lawReaches_iff, Nat.not_le] at hnext
    exact .inr hnext

theorem defaultCoefficient_limited (hc : c ≠ 0) (hx : 131071 ^ 40 * 10 ^ 192 ≤ 32768 ^ 40 * 10 ^ c) :
    (defaultCoefficient c).toNat = 65535 := by
  refine (defaultCoefficient_upper hc).resolve_right fun hupper => ?_
  have hk : 2 * (defaultCoefficient c).toNat + 1 ≤ 131071 := by
    have := (defaultCoefficient c).isLt
    omega
  have hpow := Nat.mul_le_mul_right (10 ^ 192) (Nat.pow_le_pow_left hk 40)
  exact absurd (Nat.lt_of_le_of_lt hx hupper) (Nat.not_lt.2 hpow)

theorem defaultCoefficient_rounded (hc : c ≠ 0) (hx : 32768 ^ 40 * 10 ^ c < 131071 ^ 40 * 10 ^ 192) :
    32768 ^ 40 * 10 ^ c < (2 * (defaultCoefficient c).toNat + 1) ^ 40 * 10 ^ 192 := by
  rcases defaultCoefficient_upper hc with hk | hupper
  · rwa [hk]
  · exact hupper

theorem defaultCoefficient_eq_zero_of_le (hc : c ≠ 0) (hle : c ≤ 11) : (defaultCoefficient c).toNat = 0 := by
  refine Classical.byContradiction fun hk => ?_
  have hhalf : 1 ≤ 2 * (defaultCoefficient c).toNat - 1 := by omega
  have hlaw : 1 ^ 40 * 10 ^ 192 ≤ 32768 ^ 40 * 10 ^ 11 :=
    calc 1 ^ 40 * 10 ^ 192
      _ ≤ (2 * (defaultCoefficient c).toNat - 1) ^ 40 * 10 ^ 192 :=
        Nat.mul_le_mul_right _ (Nat.pow_le_pow_left hhalf 40)
      _ ≤ 32768 ^ 40 * 10 ^ c := defaultCoefficient_lower hc hk
      _ ≤ 32768 ^ 40 * 10 ^ 11 := Nat.mul_le_mul_left _ (Nat.pow_le_pow_right (by decide) hle)
  exact absurd hlaw (by decide)

theorem defaultCoefficient_eq_limit_of_le (hle : 217 ≤ c) : (defaultCoefficient c).toNat = 65535 := by
  refine defaultCoefficient_limited (by omega) ?_
  calc 131071 ^ 40 * 10 ^ 192
    _ ≤ 32768 ^ 40 * 10 ^ 217 := by decide
    _ ≤ 32768 ^ 40 * 10 ^ c := Nat.mul_le_mul_left _ (Nat.pow_le_pow_right (by decide) hle)

/-! ### The codes at the edges -/

theorem defaultCoefficient_unity : defaultCoefficient 192 = 16384 := by
  have hrounded := defaultCoefficient_rounded (c := 192) (by decide) (by decide)
  have hmore : 32768 < 2 * (defaultCoefficient 192).toNat + 1 :=
    (Nat.pow_lt_pow_iff_left (by decide)).1 (Nat.lt_of_mul_lt_mul_right hrounded)
  have hlower := defaultCoefficient_lower (c := 192) (by decide) (by omega)
  have hless : 2 * (defaultCoefficient 192).toNat - 1 ≤ 32768 :=
    (Nat.pow_le_pow_iff_left (by decide)).1 (Nat.le_of_mul_le_mul_right hlower (Nat.pow_pos (by decide)))
  exact BitVec.eq_of_toNat_eq (show _ = 16384 by omega)

theorem defaultCoefficient_12_ne_zero : defaultCoefficient 12 ≠ 0 := by
  intro hzero
  have hk : (defaultCoefficient 12).toNat = 0 := congrArg BitVec.toNat hzero
  have hrounded := defaultCoefficient_rounded (c := 12) (by decide) (by decide)
  rw [hk] at hrounded
  exact absurd hrounded (by decide)

theorem defaultCoefficient_216_lt : (defaultCoefficient 216).toNat < 65535 := by
  refine Classical.byContradiction fun hk => ?_
  have hlimit : (defaultCoefficient 216).toNat = 65535 := by
    have := (defaultCoefficient 216).isLt
    omega
  have hlower := defaultCoefficient_lower (c := 216) (by decide) (by omega)
  rw [hlimit] at hlower
  exact absurd hlower (by decide)

/-! ### The tables of reset -/

theorem reset_law (c : Fin 256) : Tables.reset.law[c] = defaultCoefficient c.val := by
  simp only [Tables.reset, Fin.getElem_fin, Vector.getElem_ofFn]

end Sys2Proof.Machine

namespace Sys2Proof.RoutingTables
open Sys2Proof.Machine

/-- Settles O6: both copies are the tables of reset, and each clause is a fact about `defaultCoefficient`. -/
theorem defaultLawIsExact : Obligations.DefaultLawIsExact := by
  rintro straps t ht
  obtain rfl : t = Tables.reset := ht.elim id id
  refine ⟨reset_law 0, (reset_law 192).trans defaultCoefficient_unity,
    fun hzero => defaultCoefficient_12_ne_zero ((reset_law 12).symm.trans hzero),
    Nat.lt_of_le_of_lt (Nat.le_of_eq (congrArg BitVec.toNat (reset_law 216))) defaultCoefficient_216_lt,
    fun c hc => ?_⟩
  have hcode : c.val ≠ 0 := fun h => hc (Fin.ext h)
  rw [reset_law]
  exact ⟨defaultCoefficient_limited hcode,
    fun hx => ⟨defaultCoefficient_rounded hcode hx, defaultCoefficient_lower hcode⟩,
    defaultCoefficient_eq_zero_of_le hcode, defaultCoefficient_eq_limit_of_le⟩

end Sys2Proof.RoutingTables
end

-- ==== Replies and the WRITE request (sections 2.4, 2.6 and 3.11) ====
section
/-!
A request from a good sender reaches its block, its reply stands last in the arrival port's queue, and a
WRITE with a table's own code, index and length reaches `writeEntry`.
-/
namespace Sys2Proof.Machine

/-! ### The reply to a request (R26, R28, R33 to R36) -/

/-- R35: only an own TALLY or LISTEN replaces a waiting message. -/
theorem replaceIn_reply (bytes : List Byte) (sent : Nat) (egress : List EgressEntry) :
    replaceIn { bytes := bytes, origin := .reply, sent := sent } egress = none := by
  induction egress with
  | nil => rfl
  | cons old rest ih =>
    simp only [replaceIn, coalesces, Bool.and_false, Bool.false_eq_true, if_false, ih, Option.map_none]

variable {e : Env} {s : State}

theorem reply_eq_enqueue (name tag result : Byte) (data : List Byte) (hroom : hasRoom s e.port = true) :
    reply e name tag result data s = enqueue e.port (replyEntry e name tag result data s) s := by
  have hfree : s.ports[e.port].mode = .locked ∧ s.ports[e.port].egress.length < Config.egressDepth := by
    rwa [hasRoom, Bool.and_eq_true, beq_iff_eq, decide_eq_true_iff] at hroom
  obtain ⟨hmode, hlen⟩ := hfree
  simp only [reply, replyTo, offer, replyEntry, if_pos hmode, if_pos hlen, replaceIn_reply]

theorem enqueue_egress (p q : Port) (entry : EgressEntry) (s : State) :
    (enqueue p entry s).ports[q].egress =
      if q = p then s.ports[q].egress ++ [entry] else s.ports[q].egress := by
  by_cases h : q = p
  · subst h
    simp only [enqueue, State.updPort_ports, Fin.getElem_fin, Vector.getElem_set_self, if_true]
  · have hne : p.val ≠ q.val := fun hv => h (Fin.ext hv.symm)
    simp only [enqueue, State.updPort_ports, Fin.getElem_fin, Vector.getElem_set_ne _ _ hne, if_neg h]

theorem forwardBroadcast_of_unicast (kind : Byte) (payload : List Byte) (h : e.broadcast = false) :
    forwardBroadcast e kind payload s = s := by
  simp only [forwardBroadcast, h]

theorem request_eq (name tag : Byte) (fields : List Byte) (k : State → State)
    (hsender : badSender s e.sender = false) :
    request e name tag fields k s = k (forwardBroadcast e kindRequest (name :: tag :: fields) s) := by
  simp only [request, heard, hsender, Bool.false_eq_true, if_false]

/-- The reply of a request that its block answers at once, a broadcast being forwarded first (R33). -/
theorem answered_reply (kind : Byte) (payload : List Byte) (name tag result : Byte) (data : List Byte) :
    Answered e name tag result data s (reply e name tag result data (forwardBroadcast e kind payload s)) := by
  intro hunicast hroom
  rw [forwardBroadcast_of_unicast kind payload hunicast, reply_eq_enqueue name tag result data hroom]
  exact ⟨rfl, fun q => enqueue_egress e.port q _ s⟩

@[simp] theorem store_forwardBroadcast (kind : Byte) (payload : List Byte) :
    (forwardBroadcast e kind payload s).store = s.store := by
  obtain ⟨-, -, -, -, hstore, -⟩ := State.muted_agree (muted_forwardBroadcast e kind payload s)
  exact hstore

/-! ### WRITE (R54, R57) -/

@[simp] theorem TableId.ofCode_code (t : TableId) : TableId.ofCode t.code = some t := by
  cases t <;> rfl

theorem exec_write (e : Env) (tag : Byte) (fields : List Byte) (s : State) :
    exec (.write e tag fields) s = .next (serveWrite e tag fields s) := rfl

theorem serveWrite_entry {t : TableId} {index : Byte} {bytes : List Byte} (tag : Byte)
    (hsender : badSender s e.sender = false) (hindex : index.toNat < t.entries)
    (hlength : t.entryLength bytes = some bytes.length) :
    serveWrite e tag (t.code :: index :: bytes) s =
      writeEntry e tag t index bytes
        (forwardBroadcast e kindRequest (nWrite :: tag :: t.code :: index :: bytes) s) := by
  rw [serveWrite, request_eq _ _ _ _ hsender]
  simp only [TableId.ofCode_code, if_neg (Nat.not_le.2 hindex), if_pos hlength]

theorem writeEntry_lawZero (tag : Byte) (bytes : List Byte) (htake : s.store.take = none) :
    writeEntry e tag .law 0 bytes s = reply e nWrite tag rIgnored [TableId.law.code, 0, 0, 0] s := by
  simp only [writeEntry, htake, Option.isSome_none, Bool.false_eq_true, if_false, and_self, if_true]

end Sys2Proof.Machine

namespace Sys2Proof.RoutingTables
open Sys2Proof.Machine

/-- Settles O36: the WRITE reaches entry 0 of LAW, where the reply is all that happens. -/
theorem lawZeroWriteIsIgnored : Obligations.LawZeroWriteIsIgnored := by
  intro e tag hi lo s hsender htake
  have hnotake : (forwardBroadcast e kindRequest [nWrite, tag, TableId.law.code, 0, hi, lo] s).store.take = none := by
    rw [store_forwardBroadcast, htake]
  have hserve : serveWrite e tag [TableId.law.code, 0, hi, lo] s =
      reply e nWrite tag rIgnored [TableId.law.code, 0, 0, 0]
        (forwardBroadcast e kindRequest (nWrite :: tag :: [TableId.law.code, 0, hi, lo]) s) := by
    rw [serveWrite_entry tag hsender (by decide) rfl, writeEntry_lawZero _ _ hnotake]
  refine ⟨_, (exec_write ..).trans (congrArg _ hserve), ?_, answered_reply _ _ _ _ _ _⟩
  rw [muted_reply, muted_forwardBroadcast]

end Sys2Proof.RoutingTables
end
